-- ==== Sys2Proof/Word.lean ====
section
/-! DEFINITION. The widths of the block's values (00_scope.md R8, R14; 30_encoding.md R81). -/

namespace Sys2Proof

/-- One byte of the memory device or of a ROM image. -/
abbrev Byte := BitVec 8

/-- A `u32`: GPR, `pc`, HI/LO, slot value, bus address and bus data (R8 `XLEN`, R14). -/
abbrev Word := BitVec 32

/-- A floating-point register (R26 `FLEN = 64`), and a counter (R33 `CTR_BITS = 64`). -/
abbrev DWord := BitVec 64

/-- The `opcode` field (R81). -/
abbrev Opcode := BitVec 6

/-- The `rs`, `rt` and `rd` fields, and an index into `gpr` (R81, R85). -/
abbrev RegIdx := BitVec 5

/-- The `imm` field (R81). -/
abbrev Imm16 := BitVec 16

/-- The `target` field (R81). -/
abbrev Target26 := BitVec 26

/-- `mask32(v) = v mod 2^32`, the non-negative remainder (R14). -/
def mask32 (v : Int) : Word := BitVec.ofInt 32 v

end Sys2Proof
end

