-- ==== Sys2Proof/Config.lean ====
section
/-! DEFINITION. The block's parameters (00_scope.md R8): the values this hardware takes, the two OPEN
parameters, and the free value an external device answers with. -/

namespace Sys2Proof

/-- One access that the bus routed to an external device (20_memory.md R53 to R55): the device's number and the
aligned address, and for a write the value. -/
inductive DeviceAccess where
  | read (dev : Nat) (addr : Word)
  | write (dev : Nat) (addr value : Word)
  deriving DecidableEq, Repr

end Sys2Proof

namespace Sys2Proof.Config

/-- `ADDIU_OPCODE` (R8, R86, D9). UNVERIFIED in the source (log entry 11). -/
def addiuOpcode : Opcode := 9

/-- `IMM_SIGNED` (R8, R84, D8): the immediate of ADDIU is zero-extended. UNVERIFIED (log entry 9). -/
def immSigned : Bool := false

/-- `WB_GUARD_R0` (R8, R123, D33): writeback skips `rd = 0`. UNVERIFIED (log entry 10). -/
def wbGuardR0 : Bool := true

/-- `ENTRY_VECTOR` (R8, D4) is OPEN: a constant without a value (log entry 3, safe). -/
opaque entryVector : Word

/-- `PC_RESET` (R8, D5; log entry 14). -/
def pcReset : Word := 0

/-- `MEM_MIB` (R8, R58, D7; log entry 12). -/
def memMib : Nat := 4

/-- `MEM_SIZE = MEM_MIB * 2^20` bytes (R8, R58): 4 MiB. -/
def memSize : Nat := 0x400000

/-- `ADDR_MASK` (R8, R59, D6; log entry 12). -/
def addrMask : Word := 0x1FFFFFFF

/-- `MEM_INIT` (R8, R38, D20): what a byte that nothing has written reads as (log entry 13). -/
def memInit : Byte := 0

/-- `TRACE_PERIOD` (R8, R108). -/
def tracePeriod : Nat := 500

/-- `CYCLES_PER_FRAME - 1`: OPEN (R110, D15), an integer 0 or greater (log entry 4, safe). -/
opaque cyclesPerFramePred : Nat

/-- `CYCLES_PER_FRAME` (R8, R110): OPEN, an integer 1 or greater. -/
def cyclesPerFrame : Nat := cyclesPerFramePred + 1

/-- What a read of external device number `dev` at bus address `addr` answers after the accesses `history`,
newest first: a free value (R55, D30, I5; log entry 5, safe). Every earlier read and write is an argument,
because each may have changed the device. -/
opaque externalRead (dev : Nat) (addr : Word) (history : List DeviceAccess) : Word

/-- The conditions the spec puts on a configuration: R58 (`MEM_MIB >= 1`, `MEM_SIZE` is that many
mebibytes) and R110 (`CYCLES_PER_FRAME >= 1`). -/
abbrev WellFormed : Prop :=
  1 ≤ memMib ∧ memSize = memMib * 2 ^ 20 ∧ 1 ≤ cyclesPerFrame

end Sys2Proof.Config
end

