-- ==== Sys2Proof/Syntax.lean ====
section
/-! DEFINITION. The instruction record (00_scope.md R19; 30_encoding.md R81) and the instructions, one
constructor per row of spec/opcode_table.json (30_encoding.md R87).

Every constructor but `nop` carries the I-type view of its word (R83): `rs`, `rt` and `imm`, which are
all 26 bits below the opcode. `rd` and `target` overlap them (R82). -/

namespace Sys2Proof

/-- The instruction record `(opcode, rs, rt, rd, imm, target)` (R19, R81). -/
structure InstrRecord where
  opcode : Opcode
  rs : RegIdx
  rt : RegIdx
  rd : RegIdx
  imm : Imm16
  target : Target26
  deriving DecidableEq, Repr

/-- The instructions: ADDIU (R140), the 63 pass-through opcodes (R141) and NOP (R142). -/
inductive Instr where
  /-- ADDIU (R140): destination `imm[15:11]`; `rt` is ignored. -/
  | addiu (rs rt : RegIdx) (imm : Imm16)
  /-- PASS_OP00 (R141). -/
  | passOp00 (rs rt : RegIdx) (imm : Imm16)
  /-- PASS_OP01 (R141). -/
  | passOp01 (rs rt : RegIdx) (imm : Imm16)
  /-- PASS_OP02 (R141). -/
  | passOp02 (rs rt : RegIdx) (imm : Imm16)
  /-- PASS_OP03 (R141). -/
  | passOp03 (rs rt : RegIdx) (imm : Imm16)
  /-- PASS_OP04 (R141). -/
  | passOp04 (rs rt : RegIdx) (imm : Imm16)
  /-- PASS_OP05 (R141). -/
  | passOp05 (rs rt : RegIdx) (imm : Imm16)
  /-- PASS_OP06 (R141). -/
  | passOp06 (rs rt : RegIdx) (imm : Imm16)
  /-- PASS_OP07 (R141). -/
  | passOp07 (rs rt : RegIdx) (imm : Imm16)
  /-- PASS_OP08 (R141). -/
  | passOp08 (rs rt : RegIdx) (imm : Imm16)
  /-- PASS_OP0A (R141). -/
  | passOp0A (rs rt : RegIdx) (imm : Imm16)
  /-- PASS_OP0B (R141). -/
  | passOp0B (rs rt : RegIdx) (imm : Imm16)
  /-- PASS_OP0C (R141). -/
  | passOp0C (rs rt : RegIdx) (imm : Imm16)
  /-- PASS_OP0D (R141). -/
  | passOp0D (rs rt : RegIdx) (imm : Imm16)
  /-- PASS_OP0E (R141). -/
  | passOp0E (rs rt : RegIdx) (imm : Imm16)
  /-- PASS_OP0F (R141). -/
  | passOp0F (rs rt : RegIdx) (imm : Imm16)
  /-- PASS_OP10 (R141). -/
  | passOp10 (rs rt : RegIdx) (imm : Imm16)
  /-- PASS_OP11 (R141). -/
  | passOp11 (rs rt : RegIdx) (imm : Imm16)
  /-- PASS_OP12 (R141). -/
  | passOp12 (rs rt : RegIdx) (imm : Imm16)
  /-- PASS_OP13 (R141). -/
  | passOp13 (rs rt : RegIdx) (imm : Imm16)
  /-- PASS_OP14 (R141). -/
  | passOp14 (rs rt : RegIdx) (imm : Imm16)
  /-- PASS_OP15 (R141). -/
  | passOp15 (rs rt : RegIdx) (imm : Imm16)
  /-- PASS_OP16 (R141). -/
  | passOp16 (rs rt : RegIdx) (imm : Imm16)
  /-- PASS_OP17 (R141). -/
  | passOp17 (rs rt : RegIdx) (imm : Imm16)
  /-- PASS_OP18 (R141). -/
  | passOp18 (rs rt : RegIdx) (imm : Imm16)
  /-- PASS_OP19 (R141). -/
  | passOp19 (rs rt : RegIdx) (imm : Imm16)
  /-- PASS_OP1A (R141). -/
  | passOp1A (rs rt : RegIdx) (imm : Imm16)
  /-- PASS_OP1B (R141). -/
  | passOp1B (rs rt : RegIdx) (imm : Imm16)
  /-- PASS_OP1C (R141). -/
  | passOp1C (rs rt : RegIdx) (imm : Imm16)
  /-- PASS_OP1D (R141). -/
  | passOp1D (rs rt : RegIdx) (imm : Imm16)
  /-- PASS_OP1E (R141). -/
  | passOp1E (rs rt : RegIdx) (imm : Imm16)
  /-- PASS_OP1F (R141). -/
  | passOp1F (rs rt : RegIdx) (imm : Imm16)
  /-- PASS_OP20 (R141). -/
  | passOp20 (rs rt : RegIdx) (imm : Imm16)
  /-- PASS_OP21 (R141). -/
  | passOp21 (rs rt : RegIdx) (imm : Imm16)
  /-- PASS_OP22 (R141). -/
  | passOp22 (rs rt : RegIdx) (imm : Imm16)
  /-- PASS_OP23 (R141). -/
  | passOp23 (rs rt : RegIdx) (imm : Imm16)
  /-- PASS_OP24 (R141). -/
  | passOp24 (rs rt : RegIdx) (imm : Imm16)
  /-- PASS_OP25 (R141). -/
  | passOp25 (rs rt : RegIdx) (imm : Imm16)
  /-- PASS_OP26 (R141). -/
  | passOp26 (rs rt : RegIdx) (imm : Imm16)
  /-- PASS_OP27 (R141). -/
  | passOp27 (rs rt : RegIdx) (imm : Imm16)
  /-- PASS_OP28 (R141). -/
  | passOp28 (rs rt : RegIdx) (imm : Imm16)
  /-- PASS_OP29 (R141). -/
  | passOp29 (rs rt : RegIdx) (imm : Imm16)
  /-- PASS_OP2A (R141). -/
  | passOp2A (rs rt : RegIdx) (imm : Imm16)
  /-- PASS_OP2B (R141). -/
  | passOp2B (rs rt : RegIdx) (imm : Imm16)
  /-- PASS_OP2C (R141). -/
  | passOp2C (rs rt : RegIdx) (imm : Imm16)
  /-- PASS_OP2D (R141). -/
  | passOp2D (rs rt : RegIdx) (imm : Imm16)
  /-- PASS_OP2E (R141). -/
  | passOp2E (rs rt : RegIdx) (imm : Imm16)
  /-- PASS_OP2F (R141). -/
  | passOp2F (rs rt : RegIdx) (imm : Imm16)
  /-- PASS_OP30 (R141). -/
  | passOp30 (rs rt : RegIdx) (imm : Imm16)
  /-- PASS_OP31 (R141). -/
  | passOp31 (rs rt : RegIdx) (imm : Imm16)
  /-- PASS_OP32 (R141). -/
  | passOp32 (rs rt : RegIdx) (imm : Imm16)
  /-- PASS_OP33 (R141). -/
  | passOp33 (rs rt : RegIdx) (imm : Imm16)
  /-- PASS_OP34 (R141). -/
  | passOp34 (rs rt : RegIdx) (imm : Imm16)
  /-- PASS_OP35 (R141). -/
  | passOp35 (rs rt : RegIdx) (imm : Imm16)
  /-- PASS_OP36 (R141). -/
  | passOp36 (rs rt : RegIdx) (imm : Imm16)
  /-- PASS_OP37 (R141). -/
  | passOp37 (rs rt : RegIdx) (imm : Imm16)
  /-- PASS_OP38 (R141). -/
  | passOp38 (rs rt : RegIdx) (imm : Imm16)
  /-- PASS_OP39 (R141). -/
  | passOp39 (rs rt : RegIdx) (imm : Imm16)
  /-- PASS_OP3A (R141). -/
  | passOp3A (rs rt : RegIdx) (imm : Imm16)
  /-- PASS_OP3B (R141). -/
  | passOp3B (rs rt : RegIdx) (imm : Imm16)
  /-- PASS_OP3C (R141). -/
  | passOp3C (rs rt : RegIdx) (imm : Imm16)
  /-- PASS_OP3D (R141). -/
  | passOp3D (rs rt : RegIdx) (imm : Imm16)
  /-- PASS_OP3E (R141). -/
  | passOp3E (rs rt : RegIdx) (imm : Imm16)
  /-- PASS_OP3F (R141). -/
  | passOp3F (rs rt : RegIdx) (imm : Imm16)
  /-- NOP, the one word 0x00000000 (R142). -/
  | nop
  deriving DecidableEq, Repr

end Sys2Proof
end

