-- ==== Sys2Proof/WellFormed.lean ====
section
/-! DEFINITION. Which terms stand for words of their own row: the check on an instruction and the check
on an instruction record. -/

namespace Sys2Proof

/-- An instruction is well-formed unless it is a PASS_OP00 term with every bit 0: that word is the row
NOP's (30_encoding.md R87: "a 65th row, NOP, is an alias: the one word 0x00000000"; log entry 8). -/
def Instr.wellFormed : Instr → Bool
  | .passOp00 rs rt imm => !(rs == 0 && rt == 0 && imm == 0)
  | .passOp01 _ _ _ => true
  | .passOp02 _ _ _ => true
  | .passOp03 _ _ _ => true
  | .passOp04 _ _ _ => true
  | .passOp05 _ _ _ => true
  | .passOp06 _ _ _ => true
  | .passOp07 _ _ _ => true
  | .passOp08 _ _ _ => true
  | .passOp0A _ _ _ => true
  | .passOp0B _ _ _ => true
  | .passOp0C _ _ _ => true
  | .passOp0D _ _ _ => true
  | .passOp0E _ _ _ => true
  | .passOp0F _ _ _ => true
  | .passOp10 _ _ _ => true
  | .passOp11 _ _ _ => true
  | .passOp12 _ _ _ => true
  | .passOp13 _ _ _ => true
  | .passOp14 _ _ _ => true
  | .passOp15 _ _ _ => true
  | .passOp16 _ _ _ => true
  | .passOp17 _ _ _ => true
  | .passOp18 _ _ _ => true
  | .passOp19 _ _ _ => true
  | .passOp1A _ _ _ => true
  | .passOp1B _ _ _ => true
  | .passOp1C _ _ _ => true
  | .passOp1D _ _ _ => true
  | .passOp1E _ _ _ => true
  | .passOp1F _ _ _ => true
  | .passOp20 _ _ _ => true
  | .passOp21 _ _ _ => true
  | .passOp22 _ _ _ => true
  | .passOp23 _ _ _ => true
  | .passOp24 _ _ _ => true
  | .passOp25 _ _ _ => true
  | .passOp26 _ _ _ => true
  | .passOp27 _ _ _ => true
  | .passOp28 _ _ _ => true
  | .passOp29 _ _ _ => true
  | .passOp2A _ _ _ => true
  | .passOp2B _ _ _ => true
  | .passOp2C _ _ _ => true
  | .passOp2D _ _ _ => true
  | .passOp2E _ _ _ => true
  | .passOp2F _ _ _ => true
  | .passOp30 _ _ _ => true
  | .passOp31 _ _ _ => true
  | .passOp32 _ _ _ => true
  | .passOp33 _ _ _ => true
  | .passOp34 _ _ _ => true
  | .passOp35 _ _ _ => true
  | .passOp36 _ _ _ => true
  | .passOp37 _ _ _ => true
  | .passOp38 _ _ _ => true
  | .passOp39 _ _ _ => true
  | .passOp3A _ _ _ => true
  | .passOp3B _ _ _ => true
  | .passOp3C _ _ _ => true
  | .passOp3D _ _ _ => true
  | .passOp3E _ _ _ => true
  | .passOp3F _ _ _ => true
  | .addiu _ _ _ => true
  | .nop => true

/-- A record is well-formed when its overlapping fields agree, as they do for every word (R82):
`rd = imm[15:11]` and `target` is `rs`, `rt`, `imm` side by side. -/
def InstrRecord.wellFormed (r : InstrRecord) : Bool :=
  r.rd == r.imm.extractLsb' 11 5 && r.target == r.rs ++ r.rt ++ r.imm

end Sys2Proof
end

