-- ==== Sys2Proof/Decode.lean ====
section
/-! DEFINITION. The decoder (30_encoding.md R80 to R90): words to instruction records and to
instructions, bytes to instructions; and the encoder, from the same table. -/

namespace Sys2Proof

/-- The word of four bytes, the first one bits 31..24 (20_memory.md R65: big-endian fetch). -/
def wordOfBytes (b0 b1 b2 b3 : Byte) : Word := b0 ++ b1 ++ b2 ++ b3

/-- Byte `j` of a word as memory holds it, `j = 0` at the lowest address and bits 31..24 (R60, R65). -/
def byteOfWord (w : Word) (j : Nat) : Byte := w.extractLsb' (24 - 8 * j) 8

/-- The record of the four stored fields; `rd` and `target` overlap them (R81, R82). -/
def recordOf (opcode : Opcode) (rs rt : RegIdx) (imm : Imm16) : InstrRecord :=
  { opcode := opcode, rs := rs, rt := rt, rd := imm.extractLsb' 11 5, imm := imm
    target := rs ++ rt ++ imm }

/-- `decode(w)` of R81: every field of every word, whatever its opcode. -/
def decodeRecord (w : Word) : InstrRecord :=
  { opcode := w.extractLsb' 26 6, rs := w.extractLsb' 21 5, rt := w.extractLsb' 16 5
    rd := w.extractLsb' 11 5, imm := w.extractLsb' 0 16, target := w.extractLsb' 0 26 }

/-- The opcode map (R86, R87) over the fields of a word. A 6-bit number is below 64, so the last arm is
opcode 63 and no other. -/
def decodeFields (opcode : Opcode) (rs rt : RegIdx) (imm : Imm16) : Instr :=
  match opcode.toNat with
  | 0x00 => if rs = 0 ∧ rt = 0 ∧ imm = 0 then .nop else .passOp00 rs rt imm
  | 0x01 => .passOp01 rs rt imm
  | 0x02 => .passOp02 rs rt imm
  | 0x03 => .passOp03 rs rt imm
  | 0x04 => .passOp04 rs rt imm
  | 0x05 => .passOp05 rs rt imm
  | 0x06 => .passOp06 rs rt imm
  | 0x07 => .passOp07 rs rt imm
  | 0x08 => .passOp08 rs rt imm
  | 0x09 => .addiu rs rt imm
  | 0x0A => .passOp0A rs rt imm
  | 0x0B => .passOp0B rs rt imm
  | 0x0C => .passOp0C rs rt imm
  | 0x0D => .passOp0D rs rt imm
  | 0x0E => .passOp0E rs rt imm
  | 0x0F => .passOp0F rs rt imm
  | 0x10 => .passOp10 rs rt imm
  | 0x11 => .passOp11 rs rt imm
  | 0x12 => .passOp12 rs rt imm
  | 0x13 => .passOp13 rs rt imm
  | 0x14 => .passOp14 rs rt imm
  | 0x15 => .passOp15 rs rt imm
  | 0x16 => .passOp16 rs rt imm
  | 0x17 => .passOp17 rs rt imm
  | 0x18 => .passOp18 rs rt imm
  | 0x19 => .passOp19 rs rt imm
  | 0x1A => .passOp1A rs rt imm
  | 0x1B => .passOp1B rs rt imm
  | 0x1C => .passOp1C rs rt imm
  | 0x1D => .passOp1D rs rt imm
  | 0x1E => .passOp1E rs rt imm
  | 0x1F => .passOp1F rs rt imm
  | 0x20 => .passOp20 rs rt imm
  | 0x21 => .passOp21 rs rt imm
  | 0x22 => .passOp22 rs rt imm
  | 0x23 => .passOp23 rs rt imm
  | 0x24 => .passOp24 rs rt imm
  | 0x25 => .passOp25 rs rt imm
  | 0x26 => .passOp26 rs rt imm
  | 0x27 => .passOp27 rs rt imm
  | 0x28 => .passOp28 rs rt imm
  | 0x29 => .passOp29 rs rt imm
  | 0x2A => .passOp2A rs rt imm
  | 0x2B => .passOp2B rs rt imm
  | 0x2C => .passOp2C rs rt imm
  | 0x2D => .passOp2D rs rt imm
  | 0x2E => .passOp2E rs rt imm
  | 0x2F => .passOp2F rs rt imm
  | 0x30 => .passOp30 rs rt imm
  | 0x31 => .passOp31 rs rt imm
  | 0x32 => .passOp32 rs rt imm
  | 0x33 => .passOp33 rs rt imm
  | 0x34 => .passOp34 rs rt imm
  | 0x35 => .passOp35 rs rt imm
  | 0x36 => .passOp36 rs rt imm
  | 0x37 => .passOp37 rs rt imm
  | 0x38 => .passOp38 rs rt imm
  | 0x39 => .passOp39 rs rt imm
  | 0x3A => .passOp3A rs rt imm
  | 0x3B => .passOp3B rs rt imm
  | 0x3C => .passOp3C rs rt imm
  | 0x3D => .passOp3D rs rt imm
  | 0x3E => .passOp3E rs rt imm
  | _ => .passOp3F rs rt imm

/-- The instruction of a word: every one of the 2^32 words has one (R88). -/
def decodeWord (w : Word) : Instr :=
  decodeFields (w.extractLsb' 26 6) (w.extractLsb' 21 5) (w.extractLsb' 16 5) (w.extractLsb' 0 16)

/-- Why bytes hold no instruction: fewer than the four of R80 are there. No word is refused (R88).
Safe: nothing the machine fetches is short (20_memory.md R67). -/
inductive DecodeReject where
  | truncated
  deriving DecidableEq, Repr

/-- Decodes the instruction at the head of a list of bytes and gives back the bytes after it. -/
def decodeBytes : List Byte → Except DecodeReject (Instr × List Byte)
  | b0 :: b1 :: b2 :: b3 :: rest => .ok (decodeWord (wordOfBytes b0 b1 b2 b3), rest)
  | _ => .error .truncated

/-- What the decoder reads from an instruction whose bits are `w`, as spec/opcode_table.json numbers
them; the bits above `nbits` are 0. -/
def decodeTableWord (nbits w : Nat) : Option Instr :=
  let word : Word := BitVec.ofNat 32 (w % 2 ^ nbits)
  match decodeBytes [byteOfWord word 0, byteOfWord word 1, byteOfWord word 2, byteOfWord word 3] with
  | .ok (i, _) => some i
  | .error _ => none

/-- The opcode of an instruction's row in spec/opcode_table.json. -/
def Instr.opcode : Instr → Opcode
  | .addiu _ _ _ => 9
  | .passOp00 _ _ _ => 0
  | .passOp01 _ _ _ => 1
  | .passOp02 _ _ _ => 2
  | .passOp03 _ _ _ => 3
  | .passOp04 _ _ _ => 4
  | .passOp05 _ _ _ => 5
  | .passOp06 _ _ _ => 6
  | .passOp07 _ _ _ => 7
  | .passOp08 _ _ _ => 8
  | .passOp0A _ _ _ => 10
  | .passOp0B _ _ _ => 11
  | .passOp0C _ _ _ => 12
  | .passOp0D _ _ _ => 13
  | .passOp0E _ _ _ => 14
  | .passOp0F _ _ _ => 15
  | .passOp10 _ _ _ => 16
  | .passOp11 _ _ _ => 17
  | .passOp12 _ _ _ => 18
  | .passOp13 _ _ _ => 19
  | .passOp14 _ _ _ => 20
  | .passOp15 _ _ _ => 21
  | .passOp16 _ _ _ => 22
  | .passOp17 _ _ _ => 23
  | .passOp18 _ _ _ => 24
  | .passOp19 _ _ _ => 25
  | .passOp1A _ _ _ => 26
  | .passOp1B _ _ _ => 27
  | .passOp1C _ _ _ => 28
  | .passOp1D _ _ _ => 29
  | .passOp1E _ _ _ => 30
  | .passOp1F _ _ _ => 31
  | .passOp20 _ _ _ => 32
  | .passOp21 _ _ _ => 33
  | .passOp22 _ _ _ => 34
  | .passOp23 _ _ _ => 35
  | .passOp24 _ _ _ => 36
  | .passOp25 _ _ _ => 37
  | .passOp26 _ _ _ => 38
  | .passOp27 _ _ _ => 39
  | .passOp28 _ _ _ => 40
  | .passOp29 _ _ _ => 41
  | .passOp2A _ _ _ => 42
  | .passOp2B _ _ _ => 43
  | .passOp2C _ _ _ => 44
  | .passOp2D _ _ _ => 45
  | .passOp2E _ _ _ => 46
  | .passOp2F _ _ _ => 47
  | .passOp30 _ _ _ => 48
  | .passOp31 _ _ _ => 49
  | .passOp32 _ _ _ => 50
  | .passOp33 _ _ _ => 51
  | .passOp34 _ _ _ => 52
  | .passOp35 _ _ _ => 53
  | .passOp36 _ _ _ => 54
  | .passOp37 _ _ _ => 55
  | .passOp38 _ _ _ => 56
  | .passOp39 _ _ _ => 57
  | .passOp3A _ _ _ => 58
  | .passOp3B _ _ _ => 59
  | .passOp3C _ _ _ => 60
  | .passOp3D _ _ _ => 61
  | .passOp3E _ _ _ => 62
  | .passOp3F _ _ _ => 63
  | .nop => 0

/-- The `rs`, `rt` and `imm` fields of an instruction (R83). -/
def Instr.operands : Instr → RegIdx × RegIdx × Imm16
  | .addiu rs rt imm => (rs, rt, imm)
  | .passOp00 rs rt imm => (rs, rt, imm)
  | .passOp01 rs rt imm => (rs, rt, imm)
  | .passOp02 rs rt imm => (rs, rt, imm)
  | .passOp03 rs rt imm => (rs, rt, imm)
  | .passOp04 rs rt imm => (rs, rt, imm)
  | .passOp05 rs rt imm => (rs, rt, imm)
  | .passOp06 rs rt imm => (rs, rt, imm)
  | .passOp07 rs rt imm => (rs, rt, imm)
  | .passOp08 rs rt imm => (rs, rt, imm)
  | .passOp0A rs rt imm => (rs, rt, imm)
  | .passOp0B rs rt imm => (rs, rt, imm)
  | .passOp0C rs rt imm => (rs, rt, imm)
  | .passOp0D rs rt imm => (rs, rt, imm)
  | .passOp0E rs rt imm => (rs, rt, imm)
  | .passOp0F rs rt imm => (rs, rt, imm)
  | .passOp10 rs rt imm => (rs, rt, imm)
  | .passOp11 rs rt imm => (rs, rt, imm)
  | .passOp12 rs rt imm => (rs, rt, imm)
  | .passOp13 rs rt imm => (rs, rt, imm)
  | .passOp14 rs rt imm => (rs, rt, imm)
  | .passOp15 rs rt imm => (rs, rt, imm)
  | .passOp16 rs rt imm => (rs, rt, imm)
  | .passOp17 rs rt imm => (rs, rt, imm)
  | .passOp18 rs rt imm => (rs, rt, imm)
  | .passOp19 rs rt imm => (rs, rt, imm)
  | .passOp1A rs rt imm => (rs, rt, imm)
  | .passOp1B rs rt imm => (rs, rt, imm)
  | .passOp1C rs rt imm => (rs, rt, imm)
  | .passOp1D rs rt imm => (rs, rt, imm)
  | .passOp1E rs rt imm => (rs, rt, imm)
  | .passOp1F rs rt imm => (rs, rt, imm)
  | .passOp20 rs rt imm => (rs, rt, imm)
  | .passOp21 rs rt imm => (rs, rt, imm)
  | .passOp22 rs rt imm => (rs, rt, imm)
  | .passOp23 rs rt imm => (rs, rt, imm)
  | .passOp24 rs rt imm => (rs, rt, imm)
  | .passOp25 rs rt imm => (rs, rt, imm)
  | .passOp26 rs rt imm => (rs, rt, imm)
  | .passOp27 rs rt imm => (rs, rt, imm)
  | .passOp28 rs rt imm => (rs, rt, imm)
  | .passOp29 rs rt imm => (rs, rt, imm)
  | .passOp2A rs rt imm => (rs, rt, imm)
  | .passOp2B rs rt imm => (rs, rt, imm)
  | .passOp2C rs rt imm => (rs, rt, imm)
  | .passOp2D rs rt imm => (rs, rt, imm)
  | .passOp2E rs rt imm => (rs, rt, imm)
  | .passOp2F rs rt imm => (rs, rt, imm)
  | .passOp30 rs rt imm => (rs, rt, imm)
  | .passOp31 rs rt imm => (rs, rt, imm)
  | .passOp32 rs rt imm => (rs, rt, imm)
  | .passOp33 rs rt imm => (rs, rt, imm)
  | .passOp34 rs rt imm => (rs, rt, imm)
  | .passOp35 rs rt imm => (rs, rt, imm)
  | .passOp36 rs rt imm => (rs, rt, imm)
  | .passOp37 rs rt imm => (rs, rt, imm)
  | .passOp38 rs rt imm => (rs, rt, imm)
  | .passOp39 rs rt imm => (rs, rt, imm)
  | .passOp3A rs rt imm => (rs, rt, imm)
  | .passOp3B rs rt imm => (rs, rt, imm)
  | .passOp3C rs rt imm => (rs, rt, imm)
  | .passOp3D rs rt imm => (rs, rt, imm)
  | .passOp3E rs rt imm => (rs, rt, imm)
  | .passOp3F rs rt imm => (rs, rt, imm)
  | .nop => (0, 0, 0)

/-- The record of an instruction (R81). -/
def Instr.record (i : Instr) : InstrRecord :=
  recordOf i.opcode i.operands.1 i.operands.2.1 i.operands.2.2

/-- The word of an instruction: `{opcode, rs, rt, imm}` (R81, R91). -/
def encode (i : Instr) : Word :=
  i.opcode ++ i.operands.1 ++ i.operands.2.1 ++ i.operands.2.2

/-- The bytes of an instruction as memory holds them (R65). -/
def encodeBytes (i : Instr) : List Byte :=
  [byteOfWord (encode i) 0, byteOfWord (encode i) 1, byteOfWord (encode i) 2, byteOfWord (encode i) 3]

end Sys2Proof
end

