-- ==== Sys2Proof/Machine/State.lean ====
section
/-! DEFINITION. The state of the block (10_state.md R20 to R38) as plain data, why a step can stop, and
the state after reset. The one writer of each field that a step or a host operation changes is a
`State.set…` below. -/

namespace Sys2Proof.Machine

/-- The bytes of the memory device (R35): offsets strictly rising and below `MEM_SIZE`, no cell equal to
what an unlisted offset reads as (`Config.memInit`). -/
abbrev Memory := List Host.Cell

/-- Offsets strictly rise from `lo` on, stay below `MEM_SIZE`, and no cell holds the unlisted value. -/
def memCanonicalFrom (lo : Nat) : Memory → Bool
  | [] => true
  | (o, b) :: rest =>
    decide (lo ≤ o) && decide (o < Config.memSize) && b != Config.memInit && memCanonicalFrom (o + 1) rest

/-- The canonical form of memory. -/
def Memory.wf (m : Memory) : Bool := memCanonicalFrom 0 m

/-- A device of the bus (R55): the memory device, or an external device, which the model knows by a
number only (log entry 18). -/
inductive Device where
  | memory
  | external (id : Nat)
  deriving DecidableEq, Repr

/-- One registration `(base, size, dev)` of the bus (R34, R51). -/
structure Registration where
  base : Word
  size : Nat
  dev : Device
  deriving DecidableEq, Repr

/-- One pipeline slot (R28): an instruction record, or none (a bubble), and a value. -/
structure Slot where
  instr : Option InstrRecord
  value : Word
  deriving DecidableEq, Repr

/-- A slot without an instruction (R38: `(None, 0)`). -/
def Slot.bubble : Slot := { instr := none, value := 0 }

/-- Why a step stops with a fault: never. The block raises no exception and every step from every state
completes (60_exceptions.md R160, R173), so there is no constructor. -/
inductive Fault where
  deriving DecidableEq, Repr

/-- Why a step is refused. -/
inductive Refusal where
  /-- An instruction without a meaning. No arm of `exec` answers with it: every row of the opcode table
  has its meaning. Safe: a run would stop. -/
  | notModelled (mnemonic : String)
  deriving DecidableEq, Repr

/-- The state of the block: exactly the elements of R20, and one field of the model's own. -/
structure State where
  /-- The general registers (R21). `gpr[0]` is a cell like the others (R22). -/
  gpr : Vector Word 32
  /-- The program counter (R24). -/
  pc : Word
  /-- HI (R25): written by reset only. -/
  hi : Word
  /-- LO (R25): written by reset only. -/
  lo : Word
  /-- The floating-point registers (R26): written by reset only. -/
  fpr : Vector DWord 32
  /-- Control register `status` (R27): written by reset only. -/
  status : Word
  /-- Control register `cause` (R27): written by reset only. -/
  cause : Word
  /-- Control register `epc` (R27): written by reset only. -/
  epc : Word
  /-- Control register `badvaddr` (R27): written by reset only. -/
  badvaddr : Word
  /-- The pipeline slots (R28): index 0 the newest, index 4 the oldest. -/
  stage : Vector Slot 5
  /-- The stall flag (R30): set by the host, cleared by the advance that reads it. -/
  stall : Bool
  /-- The booted flag (R31). -/
  booted : Bool
  /-- `exc_pending` (R32, R161): written by reset only, read by nothing. -/
  excPending : Bool
  /-- The cycle counter (R33). -/
  cycles : DWord
  /-- The executed-instruction counter (R33): it counts steps. -/
  instret : DWord
  /-- The registrations, oldest first (R34). -/
  busmap : List Registration
  /-- The bytes of the memory device by offset (R35). -/
  mem : Memory
  /-- The most recently loaded ROM image (R36). -/
  romImage : List Byte
  /-- THE MODEL'S OWN field: the accesses that external devices have received, newest first (R55, D30; log
  entries 2, 5 and 6). -/
  deviceLog : List DeviceAccess
  deriving DecidableEq, Repr

/-- The state after construction (R38, R181), which is also the state right after a `reset` of a block
whose bus map, memory and ROM image are as constructed (R180). -/
def State.reset : State :=
  { gpr := Vector.replicate 32 0
    pc := Config.pcReset
    hi := 0
    lo := 0
    fpr := Vector.replicate 32 0
    status := 0
    cause := 0
    epc := 0
    badvaddr := 0
    stage := Vector.replicate 5 Slot.bubble
    stall := false
    booted := false
    excPending := false
    cycles := 0
    instret := 0
    busmap := [{ base := 0, size := Config.memSize, dev := .memory }]
    mem := []
    romImage := []
    deviceLog := [] }

/-- The state with another `gpr`. -/
def State.setGpr (s : State) (v : Vector Word 32) : State := { s with gpr := v }

/-- The state with another `pc`. -/
def State.setPc (s : State) (v : Word) : State := { s with pc := v }

/-- The state with another `stage`. -/
def State.setStage (s : State) (v : Vector Slot 5) : State := { s with stage := v }

/-- The state with another `stall`. -/
def State.setStall (s : State) (v : Bool) : State := { s with stall := v }

/-- The state with another `booted`. -/
def State.setBooted (s : State) (v : Bool) : State := { s with booted := v }

/-- The state with another `cycles`. -/
def State.setCycles (s : State) (v : DWord) : State := { s with cycles := v }

/-- The state with another `instret`. -/
def State.setInstret (s : State) (v : DWord) : State := { s with instret := v }

/-- The state with another `busmap`. -/
def State.setBusmap (s : State) (v : List Registration) : State := { s with busmap := v }

/-- The state with another `mem`. -/
def State.setMem (s : State) (v : Memory) : State := { s with mem := v }

/-- The state with another `romImage`. -/
def State.setRomImage (s : State) (v : List Byte) : State := { s with romImage := v }

/-- The state with another `deviceLog`. -/
def State.setDeviceLog (s : State) (v : List DeviceAccess) : State := { s with deviceLog := v }

/-- The state after an external device received one more access (R55). -/
def State.logAccess (s : State) (a : DeviceAccess) : State := s.setDeviceLog (a :: s.deviceLog)

end Sys2Proof.Machine
end

