-- ==== Sys2Proof/Machine/Flags.lean ====
section
/-! DEFINITION. The flags of the block. It has no condition flags: no instruction writes one (42_instructions.md
R140, R141). Its three one-bit flags are `stall` (10_state.md R30), `booted` (R31) and `exc_pending`
(R32), which nothing reads and only reset writes (60_exceptions.md R161). -/

namespace Sys2Proof.Machine

/-- `set_stall()` of the host (R30, R186): setting it again has no further effect. -/
def raiseStall (s : State) : State := s.setStall true

/-- A stalled advance clears the flag and does nothing else (41_pipeline.md R121). -/
def consumeStall (s : State) : State := s.setStall false

/-- The flag part of the boot transition (40_controller.md R102). -/
def markBooted (s : State) : State := s.setBooted true

end Sys2Proof.Machine
end

