-- ==== Sys2Proof/Machine/Operands.lean ====
section
/-! DEFINITION. The operand forms: the immediate (30_encoding.md R84) and a general register (R85). There are
no others. -/

namespace Sys2Proof.Machine

/-- `zext_32` of the immediate (00_scope.md R14). -/
def zext32 (imm : Imm16) : Word := imm.setWidth 32

/-- `sext_32` of the immediate: bit 15 copied into bits 31..16 (R14). -/
def sext32 (imm : Imm16) : Word := imm.signExtend 32

/-- `immval = IMM_SIGNED ? sext_32(imm) : zext_32(imm)` (R84), under either setting. -/
def immvalWith (signed : Bool) (imm : Imm16) : Word := if signed then sext32 imm else zext32 imm

/-- `immval` of this hardware (R84, `IMM_SIGNED = false`). -/
def immval (imm : Imm16) : Word := immvalWith Config.immSigned imm

/-- A read of `gpr[i]` (10_state.md R23: the read port; R22: index 0 is a cell like the others). -/
def readGpr (s : State) (i : RegIdx) : Word := s.gpr[i.toNat]'i.isLt

/-- A write of `gpr[i]` (R23: the write port). -/
def writeGpr (s : State) (i : RegIdx) (v : Word) : State := s.setGpr (s.gpr.set i.toNat v i.isLt)

/-- A read of `fpr[i]`: host observation only (R26). -/
def readFpr (s : State) (i : RegIdx) : DWord := s.fpr[i.toNat]'i.isLt

end Sys2Proof.Machine
end

