-- ==== Sys2Proof/Machine/Ops.lean ====
section
/-! DEFINITION. The named operations over memory and the bus (20_memory.md R50 to R75). There is no operation
that takes an exception or returns from one: the block raises none and has no return (60_exceptions.md
R160, R164, R165). -/

namespace Sys2Proof.Machine

/-- The byte at an offset of the memory device; an unlisted offset reads as `MEM_INIT` (R38). -/
def memReadByte : Memory → Nat → Byte
  | [], _ => Config.memInit
  | (o', b') :: rest, o => if o = o' then b' else memReadByte rest o

/-- Puts a byte at an offset and keeps the canonical form. -/
def memWriteByte : Memory → Nat → Byte → Memory
  | [], o, b => if b = Config.memInit then [] else [(o, b)]
  | (o', b') :: rest, o, b =>
    if o < o' then
      if b = Config.memInit then (o', b') :: rest else (o, b) :: (o', b') :: rest
    else if o = o' then
      if b = Config.memInit then rest else (o, b) :: rest
    else (o', b') :: memWriteByte rest o b

/-- `offset(addr) = (addr & ADDR_MASK) mod MEM_SIZE` (R59). -/
def memOffset (addr : Word) : Nat := (addr &&& Config.addrMask).toNat % Config.memSize

/-- `MemRead(addr, 4)` (R60): four bytes, big-endian. -/
def memRead (m : Memory) (addr : Word) : Word :=
  let o := memOffset addr
  wordOfBytes (memReadByte m o) (memReadByte m ((o + 1) % Config.memSize))
    (memReadByte m ((o + 2) % Config.memSize)) (memReadByte m ((o + 3) % Config.memSize))

/-- `MemWrite(addr, 4, v)` (R61): four bytes, big-endian, `mem[o]` first. -/
def memWrite (m : Memory) (addr v : Word) : Memory :=
  let o := memOffset addr
  let m0 := memWriteByte m o (byteOfWord v 0)
  let m1 := memWriteByte m0 ((o + 1) % Config.memSize) (byteOfWord v 1)
  let m2 := memWriteByte m1 ((o + 2) % Config.memSize) (byteOfWord v 2)
  memWriteByte m2 ((o + 3) % Config.memSize) (byteOfWord v 3)

/-- `mem[i mod MEM_SIZE] <- bytes[i]` for increasing `i`, from index `i` on (R63). -/
def loadBytesFrom (i : Nat) : List Byte → Memory → Memory
  | [], m => m
  | b :: rest, m => loadBytesFrom (i + 1) rest (memWriteByte m (i % Config.memSize) b)

/-- `load_rom(bytes)` (R63): the image into the backing store, then `rom_image <- bytes`. -/
def loadRom (bytes : List Byte) (s : State) : State :=
  (s.setMem (loadBytesFrom 0 bytes s.mem)).setRomImage bytes

/-- Whether a registration covers an address: `A mod 4 = 0` and `base <= A < base + size`, as integers
without wrap (R51). -/
def covers (r : Registration) (A : Word) : Bool :=
  decide (A.toNat % 4 = 0) && decide (r.base.toNat ≤ A.toNat) && decide (A.toNat < r.base.toNat + r.size)

/-- `lookup(A)` (R51): the newest registration that covers the address wins. The list is oldest first. -/
def lookup : List Registration → Word → Option Device
  | [], _ => none
  | r :: newer, A =>
    match lookup newer A with
    | some d => some d
    | none => if covers r A then some r.dev else none

/-- `register_device(base, size, dev)` (R51): appends. -/
def registerDevice (base : Word) (size : Nat) (dev : Device) (s : State) : State :=
  s.setBusmap (s.busmap ++ [{ base := base, size := size, dev := dev }])

/-- Address normalisation (R52, D2): `A = a & 0xFFFFFFFC`. -/
def busAlign (a : Word) : Word := a &&& 0xFFFFFFFC

/-- `BusRead32(addr)` (R53): the word, and the state after the read. A memory read changes nothing (R60); a
read of an external device answers a free value and may change the device, so it is logged (R55, D30; log
entry 5). -/
def busRead32 (s : State) (addr : Word) : Word × State :=
  match lookup s.busmap (busAlign addr) with
  | none => (0, s)
  | some .memory => (memRead s.mem (busAlign addr), s)
  | some (.external id) =>
    (Config.externalRead id (busAlign addr) s.deviceLog, s.logAccess (.read id (busAlign addr)))

/-- `BusWrite32(addr, v)` (R54). The external device that a write reaches gets the aligned address and the
value, and may change (R55): the write is logged, so a later read may answer otherwise. Nothing else of the
block changes (R20; log entry 6). -/
def busWrite32 (s : State) (addr v : Word) : State :=
  match lookup s.busmap (busAlign addr) with
  | none => s
  | some .memory => s.setMem (memWrite s.mem (busAlign addr) v)
  | some (.external id) => s.logAccess (.write id (busAlign addr) v)

end Sys2Proof.Machine
end

