-- ==== Sys2Proof/Machine/Pipeline.lean ====
section
/-! DEFINITION. `Pipeline.advance` (41_pipeline.md R120 to R133) in its numbered steps, and what it is for an
instruction to enter the pipeline. -/

namespace Sys2Proof.Machine

/-- Writeback of a slot under either setting of `WB_GUARD_R0` (R123): the slot's value into `gpr[rd]` when it
holds an instruction and, with the guard, `rd` is not 0. A bubble writes nothing (R122). -/
def writebackWith (guard : Bool) (old : Slot) (s : State) : State :=
  match old.instr with
  | none => s
  | some r => if r.rd ≠ 0 ∨ guard = false then writeGpr s r.rd old.value else s

/-- Step 2 of the advance (R122, R123): retire the oldest slot. -/
def retire (s : State) : State := writebackWith Config.wbGuardR0 s.stage[4] s

/-- Step 3 of the advance (R124, R126): every slot one position on, and the new record with value 0. -/
def shiftIn (new : InstrRecord) (s : State) : State :=
  s.setStage #v[{ instr := some new, value := 0 }, s.stage[0], s.stage[1], s.stage[2], s.stage[3]]

/-- Step 4 of the advance (R125): `pc <- mask32(pc + 4)`. -/
def advancePc (s : State) : State := s.setPc (s.pc + 4)

/-- The sum of ADDIU (42_instructions.md R140, R146): `mask32(gpr[rs] + immval(imm))`. -/
def addiuSum (s : State) (r : InstrRecord) : Word := readGpr s r.rs + immval r.imm

/-- Step 5 of the advance (R127, R128, R129): ADDIU in slot 1 computes its value; a bubble or any other opcode
does nothing. -/
def execute (s : State) : State :=
  match s.stage[1].instr with
  | none => s
  | some e =>
    if e.opcode = Config.addiuOpcode then
      s.setStage (s.stage.set 1 { instr := some e, value := addiuSum s e })
    else s

/-- `advance(new_instr)` (R120): the state after it, and the new `pc`, or none when it was stalled (R121,
R130). -/
def advance (new : InstrRecord) (s : State) : State × Option Word :=
  if s.stall then (consumeStall s, none)
  else
    let s' := execute (advancePc (shiftIn new (retire s)))
    (s', some s'.pc)

/-- `if newpc != None: pc <- newpc` (40_controller.md R106). -/
def commitPc : State × Option Word → State
  | (s, none) => s
  | (s, some p) => s.setPc p

/-- What a decoded record does in its step: the controller's call of `advance` and the update of `pc` (R105,
R106). Everything else it does, it does from the slots in later advances (R127, R123; log entry 1). -/
def issue (new : InstrRecord) (s : State) : State := commitPc (advance new s)

end Sys2Proof.Machine
end

