-- ==== Sys2Proof/Machine/Controller.lean ====
section
/-! DEFINITION. The controller's part of a step (40_controller.md R100 to R109): counters, boot, fetch, decode and
trace. -/

namespace Sys2Proof.Machine

/-- Both counters, before anything else of the step (R101): modulo 2^64. -/
def tick (s : State) : State := (s.setCycles (s.cycles + 1)).setInstret (s.instret + 1)

/-- `pc <- ENTRY_VECTOR` and `booted <- 1` (R102). -/
def bootTransition (s : State) : State := markBooted (s.setPc Config.entryVector)

/-- `fetch_addr = mask32(pc - 4)` (R103). -/
def fetchAddr (s : State) : Word := s.pc - 4

/-- The instruction of this step and the state it finds: on the boot step the synthesized no-op without any
bus access (R102), else the decoded word of exactly one bus read (R103, R104). -/
def nextInstr (s : State) : Instr × State :=
  if s.booted then
    let (w, s') := busRead32 s (fetchAddr s)
    (decodeWord w, s')
  else (.nop, bootTransition s)

/-- One event of the trace port (R108): the cycle count and the `pc` after the step. -/
structure TraceEvent where
  cycles : DWord
  pc : Word
  deriving DecidableEq, Repr

/-- The trace events of a step that ended in state `t` (R108): one when `cycles mod TRACE_PERIOD = 0`. It is
an output and changes no state (R109; log entry 16). -/
def traceOf (t : State) : List TraceEvent :=
  if t.cycles.toNat % Config.tracePeriod = 0 then [{ cycles := t.cycles, pc := t.pc }] else []

/-- The state in which the next step fetches `w` and runs it (log entry 7): booted, not stalled, the fetch
address routed to the memory device (by one more registration where it is not), and `w` there. -/
def placeFetchWord (s : State) (w : Word) : State :=
  let A := busAlign (fetchAddr s)
  let s' := consumeStall (markBooted s)
  let s'' := if lookup s.busmap A = some .memory then s' else registerDevice A 4 .memory s'
  s''.setMem (memWrite s.mem A w)

end Sys2Proof.Machine
end

