-- ==== Sys2Proof/Machine/Addiu.lean ====
section
/-! DEFINITION. The meaning of ADDIU (42_instructions.md R140). -/

namespace Sys2Proof.Machine

/-- ADDIU enters the pipeline. One non-stalled advance later it is in slot 1 and `execute` gives its slot the
sum; five later `retire` writes the sum into `gpr[imm[15:11]]` (R140, R131). -/
def execAddiu (rs rt : RegIdx) (imm : Imm16) (s : State) : Host.Outcome State Fault Refusal :=
  .next (issue (recordOf Config.addiuOpcode rs rt imm) s)

end Sys2Proof.Machine
end

