-- ==== Sys2Proof/Machine/Pass.lean ====
section
/-! DEFINITION. The meanings of the pass-through opcodes (42_instructions.md R141) and of NOP (R142). Each
enters the pipeline with value 0; `execute` leaves the value; five non-stalled advances later `retire`
writes the 0 into `gpr[rd]` when `rd = imm[15:11]` is not 0. -/

namespace Sys2Proof.Machine

/-- PASS_OP00 (R141). -/
def execPassOp00 (rs rt : RegIdx) (imm : Imm16) (s : State) : Host.Outcome State Fault Refusal :=
  .next (issue (recordOf 0 rs rt imm) s)

/-- PASS_OP01 (R141). -/
def execPassOp01 (rs rt : RegIdx) (imm : Imm16) (s : State) : Host.Outcome State Fault Refusal :=
  .next (issue (recordOf 1 rs rt imm) s)

/-- PASS_OP02 (R141). -/
def execPassOp02 (rs rt : RegIdx) (imm : Imm16) (s : State) : Host.Outcome State Fault Refusal :=
  .next (issue (recordOf 2 rs rt imm) s)

/-- PASS_OP03 (R141). -/
def execPassOp03 (rs rt : RegIdx) (imm : Imm16) (s : State) : Host.Outcome State Fault Refusal :=
  .next (issue (recordOf 3 rs rt imm) s)

/-- PASS_OP04 (R141). -/
def execPassOp04 (rs rt : RegIdx) (imm : Imm16) (s : State) : Host.Outcome State Fault Refusal :=
  .next (issue (recordOf 4 rs rt imm) s)

/-- PASS_OP05 (R141). -/
def execPassOp05 (rs rt : RegIdx) (imm : Imm16) (s : State) : Host.Outcome State Fault Refusal :=
  .next (issue (recordOf 5 rs rt imm) s)

/-- PASS_OP06 (R141). -/
def execPassOp06 (rs rt : RegIdx) (imm : Imm16) (s : State) : Host.Outcome State Fault Refusal :=
  .next (issue (recordOf 6 rs rt imm) s)

/-- PASS_OP07 (R141). -/
def execPassOp07 (rs rt : RegIdx) (imm : Imm16) (s : State) : Host.Outcome State Fault Refusal :=
  .next (issue (recordOf 7 rs rt imm) s)

/-- PASS_OP08 (R141). -/
def execPassOp08 (rs rt : RegIdx) (imm : Imm16) (s : State) : Host.Outcome State Fault Refusal :=
  .next (issue (recordOf 8 rs rt imm) s)

/-- PASS_OP0A (R141). -/
def execPassOp0A (rs rt : RegIdx) (imm : Imm16) (s : State) : Host.Outcome State Fault Refusal :=
  .next (issue (recordOf 10 rs rt imm) s)

/-- PASS_OP0B (R141). -/
def execPassOp0B (rs rt : RegIdx) (imm : Imm16) (s : State) : Host.Outcome State Fault Refusal :=
  .next (issue (recordOf 11 rs rt imm) s)

/-- PASS_OP0C (R141). -/
def execPassOp0C (rs rt : RegIdx) (imm : Imm16) (s : State) : Host.Outcome State Fault Refusal :=
  .next (issue (recordOf 12 rs rt imm) s)

/-- PASS_OP0D (R141). -/
def execPassOp0D (rs rt : RegIdx) (imm : Imm16) (s : State) : Host.Outcome State Fault Refusal :=
  .next (issue (recordOf 13 rs rt imm) s)

/-- PASS_OP0E (R141). -/
def execPassOp0E (rs rt : RegIdx) (imm : Imm16) (s : State) : Host.Outcome State Fault Refusal :=
  .next (issue (recordOf 14 rs rt imm) s)

/-- PASS_OP0F (R141). -/
def execPassOp0F (rs rt : RegIdx) (imm : Imm16) (s : State) : Host.Outcome State Fault Refusal :=
  .next (issue (recordOf 15 rs rt imm) s)

/-- PASS_OP10 (R141). -/
def execPassOp10 (rs rt : RegIdx) (imm : Imm16) (s : State) : Host.Outcome State Fault Refusal :=
  .next (issue (recordOf 16 rs rt imm) s)

/-- PASS_OP11 (R141). -/
def execPassOp11 (rs rt : RegIdx) (imm : Imm16) (s : State) : Host.Outcome State Fault Refusal :=
  .next (issue (recordOf 17 rs rt imm) s)

/-- PASS_OP12 (R141). -/
def execPassOp12 (rs rt : RegIdx) (imm : Imm16) (s : State) : Host.Outcome State Fault Refusal :=
  .next (issue (recordOf 18 rs rt imm) s)

/-- PASS_OP13 (R141). -/
def execPassOp13 (rs rt : RegIdx) (imm : Imm16) (s : State) : Host.Outcome State Fault Refusal :=
  .next (issue (recordOf 19 rs rt imm) s)

/-- PASS_OP14 (R141). -/
def execPassOp14 (rs rt : RegIdx) (imm : Imm16) (s : State) : Host.Outcome State Fault Refusal :=
  .next (issue (recordOf 20 rs rt imm) s)

/-- PASS_OP15 (R141). -/
def execPassOp15 (rs rt : RegIdx) (imm : Imm16) (s : State) : Host.Outcome State Fault Refusal :=
  .next (issue (recordOf 21 rs rt imm) s)

/-- PASS_OP16 (R141). -/
def execPassOp16 (rs rt : RegIdx) (imm : Imm16) (s : State) : Host.Outcome State Fault Refusal :=
  .next (issue (recordOf 22 rs rt imm) s)

/-- PASS_OP17 (R141). -/
def execPassOp17 (rs rt : RegIdx) (imm : Imm16) (s : State) : Host.Outcome State Fault Refusal :=
  .next (issue (recordOf 23 rs rt imm) s)

/-- PASS_OP18 (R141). -/
def execPassOp18 (rs rt : RegIdx) (imm : Imm16) (s : State) : Host.Outcome State Fault Refusal :=
  .next (issue (recordOf 24 rs rt imm) s)

/-- PASS_OP19 (R141). -/
def execPassOp19 (rs rt : RegIdx) (imm : Imm16) (s : State) : Host.Outcome State Fault Refusal :=
  .next (issue (recordOf 25 rs rt imm) s)

/-- PASS_OP1A (R141). -/
def execPassOp1A (rs rt : RegIdx) (imm : Imm16) (s : State) : Host.Outcome State Fault Refusal :=
  .next (issue (recordOf 26 rs rt imm) s)

/-- PASS_OP1B (R141). -/
def execPassOp1B (rs rt : RegIdx) (imm : Imm16) (s : State) : Host.Outcome State Fault Refusal :=
  .next (issue (recordOf 27 rs rt imm) s)

/-- PASS_OP1C (R141). -/
def execPassOp1C (rs rt : RegIdx) (imm : Imm16) (s : State) : Host.Outcome State Fault Refusal :=
  .next (issue (recordOf 28 rs rt imm) s)

/-- PASS_OP1D (R141). -/
def execPassOp1D (rs rt : RegIdx) (imm : Imm16) (s : State) : Host.Outcome State Fault Refusal :=
  .next (issue (recordOf 29 rs rt imm) s)

/-- PASS_OP1E (R141). -/
def execPassOp1E (rs rt : RegIdx) (imm : Imm16) (s : State) : Host.Outcome State Fault Refusal :=
  .next (issue (recordOf 30 rs rt imm) s)

/-- PASS_OP1F (R141). -/
def execPassOp1F (rs rt : RegIdx) (imm : Imm16) (s : State) : Host.Outcome State Fault Refusal :=
  .next (issue (recordOf 31 rs rt imm) s)

/-- PASS_OP20 (R141). -/
def execPassOp20 (rs rt : RegIdx) (imm : Imm16) (s : State) : Host.Outcome State Fault Refusal :=
  .next (issue (recordOf 32 rs rt imm) s)

/-- PASS_OP21 (R141). -/
def execPassOp21 (rs rt : RegIdx) (imm : Imm16) (s : State) : Host.Outcome State Fault Refusal :=
  .next (issue (recordOf 33 rs rt imm) s)

/-- PASS_OP22 (R141). -/
def execPassOp22 (rs rt : RegIdx) (imm : Imm16) (s : State) : Host.Outcome State Fault Refusal :=
  .next (issue (recordOf 34 rs rt imm) s)

/-- PASS_OP23 (R141). -/
def execPassOp23 (rs rt : RegIdx) (imm : Imm16) (s : State) : Host.Outcome State Fault Refusal :=
  .next (issue (recordOf 35 rs rt imm) s)

/-- PASS_OP24 (R141). -/
def execPassOp24 (rs rt : RegIdx) (imm : Imm16) (s : State) : Host.Outcome State Fault Refusal :=
  .next (issue (recordOf 36 rs rt imm) s)

/-- PASS_OP25 (R141). -/
def execPassOp25 (rs rt : RegIdx) (imm : Imm16) (s : State) : Host.Outcome State Fault Refusal :=
  .next (issue (recordOf 37 rs rt imm) s)

/-- PASS_OP26 (R141). -/
def execPassOp26 (rs rt : RegIdx) (imm : Imm16) (s : State) : Host.Outcome State Fault Refusal :=
  .next (issue (recordOf 38 rs rt imm) s)

/-- PASS_OP27 (R141). -/
def execPassOp27 (rs rt : RegIdx) (imm : Imm16) (s : State) : Host.Outcome State Fault Refusal :=
  .next (issue (recordOf 39 rs rt imm) s)

/-- PASS_OP28 (R141). -/
def execPassOp28 (rs rt : RegIdx) (imm : Imm16) (s : State) : Host.Outcome State Fault Refusal :=
  .next (issue (recordOf 40 rs rt imm) s)

/-- PASS_OP29 (R141). -/
def execPassOp29 (rs rt : RegIdx) (imm : Imm16) (s : State) : Host.Outcome State Fault Refusal :=
  .next (issue (recordOf 41 rs rt imm) s)

/-- PASS_OP2A (R141). -/
def execPassOp2A (rs rt : RegIdx) (imm : Imm16) (s : State) : Host.Outcome State Fault Refusal :=
  .next (issue (recordOf 42 rs rt imm) s)

/-- PASS_OP2B (R141). -/
def execPassOp2B (rs rt : RegIdx) (imm : Imm16) (s : State) : Host.Outcome State Fault Refusal :=
  .next (issue (recordOf 43 rs rt imm) s)

/-- PASS_OP2C (R141). -/
def execPassOp2C (rs rt : RegIdx) (imm : Imm16) (s : State) : Host.Outcome State Fault Refusal :=
  .next (issue (recordOf 44 rs rt imm) s)

/-- PASS_OP2D (R141). -/
def execPassOp2D (rs rt : RegIdx) (imm : Imm16) (s : State) : Host.Outcome State Fault Refusal :=
  .next (issue (recordOf 45 rs rt imm) s)

/-- PASS_OP2E (R141). -/
def execPassOp2E (rs rt : RegIdx) (imm : Imm16) (s : State) : Host.Outcome State Fault Refusal :=
  .next (issue (recordOf 46 rs rt imm) s)

/-- PASS_OP2F (R141). -/
def execPassOp2F (rs rt : RegIdx) (imm : Imm16) (s : State) : Host.Outcome State Fault Refusal :=
  .next (issue (recordOf 47 rs rt imm) s)

/-- PASS_OP30 (R141). -/
def execPassOp30 (rs rt : RegIdx) (imm : Imm16) (s : State) : Host.Outcome State Fault Refusal :=
  .next (issue (recordOf 48 rs rt imm) s)

/-- PASS_OP31 (R141). -/
def execPassOp31 (rs rt : RegIdx) (imm : Imm16) (s : State) : Host.Outcome State Fault Refusal :=
  .next (issue (recordOf 49 rs rt imm) s)

/-- PASS_OP32 (R141). -/
def execPassOp32 (rs rt : RegIdx) (imm : Imm16) (s : State) : Host.Outcome State Fault Refusal :=
  .next (issue (recordOf 50 rs rt imm) s)

/-- PASS_OP33 (R141). -/
def execPassOp33 (rs rt : RegIdx) (imm : Imm16) (s : State) : Host.Outcome State Fault Refusal :=
  .next (issue (recordOf 51 rs rt imm) s)

/-- PASS_OP34 (R141). -/
def execPassOp34 (rs rt : RegIdx) (imm : Imm16) (s : State) : Host.Outcome State Fault Refusal :=
  .next (issue (recordOf 52 rs rt imm) s)

/-- PASS_OP35 (R141). -/
def execPassOp35 (rs rt : RegIdx) (imm : Imm16) (s : State) : Host.Outcome State Fault Refusal :=
  .next (issue (recordOf 53 rs rt imm) s)

/-- PASS_OP36 (R141). -/
def execPassOp36 (rs rt : RegIdx) (imm : Imm16) (s : State) : Host.Outcome State Fault Refusal :=
  .next (issue (recordOf 54 rs rt imm) s)

/-- PASS_OP37 (R141). -/
def execPassOp37 (rs rt : RegIdx) (imm : Imm16) (s : State) : Host.Outcome State Fault Refusal :=
  .next (issue (recordOf 55 rs rt imm) s)

/-- PASS_OP38 (R141). -/
def execPassOp38 (rs rt : RegIdx) (imm : Imm16) (s : State) : Host.Outcome State Fault Refusal :=
  .next (issue (recordOf 56 rs rt imm) s)

/-- PASS_OP39 (R141). -/
def execPassOp39 (rs rt : RegIdx) (imm : Imm16) (s : State) : Host.Outcome State Fault Refusal :=
  .next (issue (recordOf 57 rs rt imm) s)

/-- PASS_OP3A (R141). -/
def execPassOp3A (rs rt : RegIdx) (imm : Imm16) (s : State) : Host.Outcome State Fault Refusal :=
  .next (issue (recordOf 58 rs rt imm) s)

/-- PASS_OP3B (R141). -/
def execPassOp3B (rs rt : RegIdx) (imm : Imm16) (s : State) : Host.Outcome State Fault Refusal :=
  .next (issue (recordOf 59 rs rt imm) s)

/-- PASS_OP3C (R141). -/
def execPassOp3C (rs rt : RegIdx) (imm : Imm16) (s : State) : Host.Outcome State Fault Refusal :=
  .next (issue (recordOf 60 rs rt imm) s)

/-- PASS_OP3D (R141). -/
def execPassOp3D (rs rt : RegIdx) (imm : Imm16) (s : State) : Host.Outcome State Fault Refusal :=
  .next (issue (recordOf 61 rs rt imm) s)

/-- PASS_OP3E (R141). -/
def execPassOp3E (rs rt : RegIdx) (imm : Imm16) (s : State) : Host.Outcome State Fault Refusal :=
  .next (issue (recordOf 62 rs rt imm) s)

/-- PASS_OP3F (R141). -/
def execPassOp3F (rs rt : RegIdx) (imm : Imm16) (s : State) : Host.Outcome State Fault Refusal :=
  .next (issue (recordOf 63 rs rt imm) s)

/-- NOP, the word 0x00000000, also the synthesized no-op of the boot step (R142, R90): its `rd` is 0, so it
writes nothing at retire. -/
def execNop (s : State) : Host.Outcome State Fault Refusal :=
  .next (issue (recordOf 0 0 0 0) s)

end Sys2Proof.Machine
end

