-- ==== Sys2Proof/Machine/Dispatch.lean ====
section
/-! DEFINITION. One arm per constructor of Instr, each one direct call of its meaning. -/

namespace Sys2Proof.Machine

def exec (i : Instr) (s : State) : Host.Outcome State Fault Refusal :=
  match i with
  | .addiu rs rt imm => Sys2Proof.Machine.execAddiu rs rt imm s
  | .passOp00 rs rt imm => Sys2Proof.Machine.execPassOp00 rs rt imm s
  | .passOp01 rs rt imm => Sys2Proof.Machine.execPassOp01 rs rt imm s
  | .passOp02 rs rt imm => Sys2Proof.Machine.execPassOp02 rs rt imm s
  | .passOp03 rs rt imm => Sys2Proof.Machine.execPassOp03 rs rt imm s
  | .passOp04 rs rt imm => Sys2Proof.Machine.execPassOp04 rs rt imm s
  | .passOp05 rs rt imm => Sys2Proof.Machine.execPassOp05 rs rt imm s
  | .passOp06 rs rt imm => Sys2Proof.Machine.execPassOp06 rs rt imm s
  | .passOp07 rs rt imm => Sys2Proof.Machine.execPassOp07 rs rt imm s
  | .passOp08 rs rt imm => Sys2Proof.Machine.execPassOp08 rs rt imm s
  | .passOp0A rs rt imm => Sys2Proof.Machine.execPassOp0A rs rt imm s
  | .passOp0B rs rt imm => Sys2Proof.Machine.execPassOp0B rs rt imm s
  | .passOp0C rs rt imm => Sys2Proof.Machine.execPassOp0C rs rt imm s
  | .passOp0D rs rt imm => Sys2Proof.Machine.execPassOp0D rs rt imm s
  | .passOp0E rs rt imm => Sys2Proof.Machine.execPassOp0E rs rt imm s
  | .passOp0F rs rt imm => Sys2Proof.Machine.execPassOp0F rs rt imm s
  | .passOp10 rs rt imm => Sys2Proof.Machine.execPassOp10 rs rt imm s
  | .passOp11 rs rt imm => Sys2Proof.Machine.execPassOp11 rs rt imm s
  | .passOp12 rs rt imm => Sys2Proof.Machine.execPassOp12 rs rt imm s
  | .passOp13 rs rt imm => Sys2Proof.Machine.execPassOp13 rs rt imm s
  | .passOp14 rs rt imm => Sys2Proof.Machine.execPassOp14 rs rt imm s
  | .passOp15 rs rt imm => Sys2Proof.Machine.execPassOp15 rs rt imm s
  | .passOp16 rs rt imm => Sys2Proof.Machine.execPassOp16 rs rt imm s
  | .passOp17 rs rt imm => Sys2Proof.Machine.execPassOp17 rs rt imm s
  | .passOp18 rs rt imm => Sys2Proof.Machine.execPassOp18 rs rt imm s
  | .passOp19 rs rt imm => Sys2Proof.Machine.execPassOp19 rs rt imm s
  | .passOp1A rs rt imm => Sys2Proof.Machine.execPassOp1A rs rt imm s
  | .passOp1B rs rt imm => Sys2Proof.Machine.execPassOp1B rs rt imm s
  | .passOp1C rs rt imm => Sys2Proof.Machine.execPassOp1C rs rt imm s
  | .passOp1D rs rt imm => Sys2Proof.Machine.execPassOp1D rs rt imm s
  | .passOp1E rs rt imm => Sys2Proof.Machine.execPassOp1E rs rt imm s
  | .passOp1F rs rt imm => Sys2Proof.Machine.execPassOp1F rs rt imm s
  | .passOp20 rs rt imm => Sys2Proof.Machine.execPassOp20 rs rt imm s
  | .passOp21 rs rt imm => Sys2Proof.Machine.execPassOp21 rs rt imm s
  | .passOp22 rs rt imm => Sys2Proof.Machine.execPassOp22 rs rt imm s
  | .passOp23 rs rt imm => Sys2Proof.Machine.execPassOp23 rs rt imm s
  | .passOp24 rs rt imm => Sys2Proof.Machine.execPassOp24 rs rt imm s
  | .passOp25 rs rt imm => Sys2Proof.Machine.execPassOp25 rs rt imm s
  | .passOp26 rs rt imm => Sys2Proof.Machine.execPassOp26 rs rt imm s
  | .passOp27 rs rt imm => Sys2Proof.Machine.execPassOp27 rs rt imm s
  | .passOp28 rs rt imm => Sys2Proof.Machine.execPassOp28 rs rt imm s
  | .passOp29 rs rt imm => Sys2Proof.Machine.execPassOp29 rs rt imm s
  | .passOp2A rs rt imm => Sys2Proof.Machine.execPassOp2A rs rt imm s
  | .passOp2B rs rt imm => Sys2Proof.Machine.execPassOp2B rs rt imm s
  | .passOp2C rs rt imm => Sys2Proof.Machine.execPassOp2C rs rt imm s
  | .passOp2D rs rt imm => Sys2Proof.Machine.execPassOp2D rs rt imm s
  | .passOp2E rs rt imm => Sys2Proof.Machine.execPassOp2E rs rt imm s
  | .passOp2F rs rt imm => Sys2Proof.Machine.execPassOp2F rs rt imm s
  | .passOp30 rs rt imm => Sys2Proof.Machine.execPassOp30 rs rt imm s
  | .passOp31 rs rt imm => Sys2Proof.Machine.execPassOp31 rs rt imm s
  | .passOp32 rs rt imm => Sys2Proof.Machine.execPassOp32 rs rt imm s
  | .passOp33 rs rt imm => Sys2Proof.Machine.execPassOp33 rs rt imm s
  | .passOp34 rs rt imm => Sys2Proof.Machine.execPassOp34 rs rt imm s
  | .passOp35 rs rt imm => Sys2Proof.Machine.execPassOp35 rs rt imm s
  | .passOp36 rs rt imm => Sys2Proof.Machine.execPassOp36 rs rt imm s
  | .passOp37 rs rt imm => Sys2Proof.Machine.execPassOp37 rs rt imm s
  | .passOp38 rs rt imm => Sys2Proof.Machine.execPassOp38 rs rt imm s
  | .passOp39 rs rt imm => Sys2Proof.Machine.execPassOp39 rs rt imm s
  | .passOp3A rs rt imm => Sys2Proof.Machine.execPassOp3A rs rt imm s
  | .passOp3B rs rt imm => Sys2Proof.Machine.execPassOp3B rs rt imm s
  | .passOp3C rs rt imm => Sys2Proof.Machine.execPassOp3C rs rt imm s
  | .passOp3D rs rt imm => Sys2Proof.Machine.execPassOp3D rs rt imm s
  | .passOp3E rs rt imm => Sys2Proof.Machine.execPassOp3E rs rt imm s
  | .passOp3F rs rt imm => Sys2Proof.Machine.execPassOp3F rs rt imm s
  | .nop => Sys2Proof.Machine.execNop s

end Sys2Proof.Machine
end

