-- ==== Sys2Proof/Machine/Step.lean ====
section
/-! DEFINITION. One step of the block (40_controller.md R100): counters, then the boot transition or the fetch,
then the instruction of the step. -/

namespace Sys2Proof.Machine

/-- `step()` (R100). Its trace output is `traceOf` of the state it answers. -/
def step (s : State) : Host.Outcome State Fault Refusal :=
  exec (nextInstr (tick s)).1 (nextInstr (tick s)).2

/-- `s` with an instruction word stored where `step` fetches its next instruction; the bits of `w` from
`nbits` on are 0. -/
def State.withFetchWord (s : State) (nbits w : Nat) : State :=
  placeFetchWord s (BitVec.ofNat 32 (w % 2 ^ nbits))

end Sys2Proof.Machine
end

