-- ==== Sys2Proof/Machine/HostOps.lean ====
section
/-! DEFINITION. The host's operations (70_reset_and_hazards.md R186) and the frame (40_controller.md R110). -/

namespace Sys2Proof.Machine

/-- `reset()` (R180): every element of the CpuCore, the register file and the pipeline to its value after
reset (10_state.md R38); `busmap`, `mem` and `rom_image` stay, and so does the model's own `deviceLog`
(log entry 2). -/
def hostReset (s : State) : State :=
  { State.reset with busmap := s.busmap, mem := s.mem, romImage := s.romImage, deviceLog := s.deviceLog }

/-- `n` steps in a row with the trace events they emit, oldest first. -/
def runTraced : Nat → State → Host.Outcome (State × List TraceEvent) Fault Refusal
  | 0, s => .next (s, [])
  | n + 1, s =>
    match step s with
    | .next t =>
      match runTraced n t with
      | .next (u, events) => .next (u, traceOf t ++ events)
      | .fault f => .fault f
      | .refused r => .refused r
    | .fault f => .fault f
    | .refused r => .refused r

/-- `step_frame()` (R110): exactly `CYCLES_PER_FRAME` steps. -/
def stepFrame (s : State) : Host.Outcome (State × List TraceEvent) Fault Refusal :=
  runTraced Config.cyclesPerFrame s

/-- The rows of the host table (R186). Addresses and values are integers, taken modulo 2^32 (R52, D34). -/
inductive HostOp where
  | step
  | stepFrame
  | reset
  | loadRom (bytes : List Byte)
  | setStall
  | registerDevice (base : Word) (size : Nat) (dev : Device)
  | busRead32 (addr : Int)
  | busWrite32 (addr v : Int)
  | observe
  deriving DecidableEq, Repr

/-- What the host gets back (R186). `load_rom`'s descriptor is the host's own and is left out (log entry 17). -/
inductive HostReply where
  | nothing
  | trace (events : List TraceEvent)
  | word (w : Word)
  | observed (s : State)
  deriving DecidableEq, Repr

/-- One host operation (R186): the state after it and what the host gets back. -/
def hostOp (op : HostOp) (s : State) : Host.Outcome (State × HostReply) Fault Refusal :=
  match op with
  | .step =>
    match runTraced 1 s with
    | .next (t, events) => .next (t, .trace events)
    | .fault f => .fault f
    | .refused r => .refused r
  | .stepFrame =>
    match Sys2Proof.Machine.stepFrame s with
    | .next (t, events) => .next (t, .trace events)
    | .fault f => .fault f
    | .refused r => .refused r
  | .reset => .next (hostReset s, .nothing)
  | .loadRom bytes => .next (Sys2Proof.Machine.loadRom bytes s, .nothing)
  | .setStall => .next (raiseStall s, .nothing)
  | .registerDevice base size dev => .next (Sys2Proof.Machine.registerDevice base size dev s, .nothing)
  | .busRead32 addr =>
    .next ((Sys2Proof.Machine.busRead32 s (mask32 addr)).2,
      .word (Sys2Proof.Machine.busRead32 s (mask32 addr)).1)
  | .busWrite32 addr v => .next (Sys2Proof.Machine.busWrite32 s (mask32 addr) (mask32 v), .nothing)
  | .observe => .next (s, .observed s)

/-- A run of the block (60_exceptions.md R173, D27): a finite sequence of host operations, one after the other.
Its end is the state after the last one, beside what each one gave back, oldest first; a run without
operations ends where it starts. -/
def runHost : List HostOp → State → Host.Outcome (State × List HostReply) Fault Refusal
  | [], s => .next (s, [])
  | op :: rest, s =>
    match hostOp op s with
    | .next (t, reply) =>
      match runHost rest t with
      | .next (u, replies) => .next (u, reply :: replies)
      | .fault f => .fault f
      | .refused r => .refused r
    | .fault f => .fault f
    | .refused r => .refused r

end Sys2Proof.Machine
end

