-- ==== Sys2Proof/Safety.lean ====
section
/-! DEFINITION. The terms the claims use: runs, what one step may and may not touch, what it is for a record to
enter the pipeline, and the invariant of the block. -/

namespace Sys2Proof.Machine

/-- The instructions of a list entering the pipeline one after the other. -/
def execAll : List Instr → State → Host.Outcome State Fault Refusal
  | [], s => .next s
  | i :: rest, s =>
    match exec i s with
    | .next t => execAll rest t
    | .fault f => .fault f
    | .refused r => .refused r

/-- `n` steps. -/
def runSteps : Nat → State → Host.Outcome State Fault Refusal
  | 0, s => .next s
  | n + 1, s =>
    match step s with
    | .next t => runSteps n t
    | .fault f => .fault f
    | .refused r => .refused r

/-- The registers and flags that no rule of the block reads and only reset writes (10_state.md R25, R26,
R27, R32) are equal. -/
structure SameUnread (s t : State) : Prop where
  hi : t.hi = s.hi
  lo : t.lo = s.lo
  fpr : ∀ k, readFpr t k = readFpr s k
  status : t.status = s.status
  cause : t.cause = s.cause
  epc : t.epc = s.epc
  badvaddr : t.badvaddr = s.badvaddr
  excPending : t.excPending = s.excPending

/-- The bus side of the block is equal: the bus map, every byte of memory, the ROM image and the
accesses that external devices have received. -/
structure SameBus (s t : State) : Prop where
  busmap : t.busmap = s.busmap
  bytes : ∀ o, memReadByte t.mem o = memReadByte s.mem o
  mem : t.mem = s.mem
  romImage : t.romImage = s.romImage
  deviceLog : t.deviceLog = s.deviceLog

/-- What no instruction touches: everything but `gpr`, `pc`, the slots and `stall`. -/
structure Untouched (s t : State) : Prop where
  unread : SameUnread s t
  bus : SameBus s t
  booted : t.booted = s.booted
  cycles : t.cycles = s.cycles
  instret : t.instret = s.instret

/-- The core side of the block is equal: everything but the bus side. -/
structure SameCore (s t : State) : Prop where
  unread : SameUnread s t
  gpr : ∀ k, readGpr t k = readGpr s k
  pc : t.pc = s.pc
  stage : t.stage = s.stage
  stall : t.stall = s.stall
  booted : t.booted = s.booted
  cycles : t.cycles = s.cycles
  instret : t.instret = s.instret

/-- The general registers of `t` are those of `s` after slot `old` retired (41_pipeline.md R122, R123): the
slot's value in `gpr[rd]` when it holds an instruction and `rd` is not 0, all else as before. -/
structure Retired (old : Slot) (s t : State) : Prop where
  written : ∀ r, old.instr = some r → r.rd ≠ 0 → readGpr t r.rd = old.value
  kept : ∀ k, (∀ r, old.instr = some r → r.rd = k → k = 0) → readGpr t k = readGpr s k

/-- `t` is `s` after one non-stalled advance in which the record `r` entered (R120): the oldest slot retired,
the slots moved on, `pc` went on by 4, and the record now in slot 1 executed on the registers as the
writeback left them (R128). -/
structure Enters (r : InstrRecord) (s t : State) : Prop where
  newest : t.stage[0] = { instr := some r, value := 0 }
  computes : ∀ e, s.stage[0].instr = some e → e.opcode = 9 →
    t.stage[1] = { instr := some e, value := mask32 ((readGpr t e.rs).toNat + e.imm.toNat) }
  passes : (∀ e, s.stage[0].instr = some e → e.opcode ≠ 9) → t.stage[1] = s.stage[0]
  moved2 : t.stage[2] = s.stage[1]
  moved3 : t.stage[3] = s.stage[2]
  moved4 : t.stage[4] = s.stage[3]
  retired : Retired s.stage[4] s t
  pc : t.pc = mask32 (s.pc.toNat + 4)
  stall : t.stall = s.stall
  untouched : Untouched s t

/-- The invariant of the block. -/
structure BlockInv (s : State) : Prop where
  /-- Memory is in its canonical form. -/
  memory : s.mem.wf = true
  /-- `gpr[0]` keeps its reset value 0 (R22). -/
  zero : readGpr s 0 = 0
  /-- What only reset writes has its reset value (R25, R26, R27, R161). -/
  unread : SameUnread State.reset s
  /-- The overlapping fields of every record in flight agree (30_encoding.md R82). -/
  records : ∀ k : Fin 5, ∀ r, s.stage[k].instr = some r → r.wellFormed = true
  /-- A bubble or a pass-through record holds the value 0 (R126, R129). -/
  passZero : ∀ k : Fin 5, (∀ r, s.stage[k].instr = some r → r.opcode ≠ 9) → s.stage[k].value = 0
  /-- The newest slot holds the value 0 (R133). -/
  newestZero : s.stage[0].value = 0
  /-- Bubbles are older than every record (R133). -/
  filled : ∀ k : Fin 4, s.stage[k.castSucc].instr = none → s.stage[k.succ].instr = none
  /-- Before the boot step nothing is in flight, nothing is counted and `pc` is at its reset value (R182). -/
  unbooted : s.booted = false →
    (∀ k : Fin 5, s.stage[k] = Slot.bubble) ∧ s.cycles = 0 ∧ s.pc = Config.pcReset
  /-- After it `pc` keeps the low two bits of the entry vector (R24). -/
  aligned : s.booted = true → s.pc.extractLsb' 0 2 = Config.entryVector.extractLsb' 0 2
  /-- Both counters count steps (R101). -/
  counters : s.instret = s.cycles
  /-- The registration made at construction is never removed (20_memory.md R51, R68). -/
  registered : s.busmap.head? = some { base := 0, size := 0x400000, dev := .memory }

end Sys2Proof.Machine
end

