-- ==== Sys2Proof/Certificates/Slice0/Obligations.lean ====
section
/-! DEFINITION. The statements for the provers. Each docstring names the rule or section of spec/ that it
formalises; OBLIGATIONS.json holds the same list. -/

open Sys2Proof Sys2Proof.Machine

/-! ### Reset -/

/-- 70_reset_and_hazards.md R180 with the last column of 10_state.md R38: what the host's `reset` leaves. The
values are the spec's decisions D5, D16 to D19, D21, D24, D29 and D32 (log entry 14). The last field of
`SameBus`, that the model's own `deviceLog` stays, is the model's choice (log entry 2), no value of the spec. -/
def Obligations.HostResetRestoresReset : Prop :=
  ∀ s : State, ∃ t, hostOp .reset s = .next (t, .nothing) ∧
    (∀ k, readGpr t k = 0) ∧ (∀ k, readFpr t k = 0) ∧ t.pc = 0 ∧ t.hi = 0 ∧ t.lo = 0 ∧
    t.status = 0 ∧ t.cause = 0 ∧ t.epc = 0 ∧ t.badvaddr = 0 ∧
    (∀ k : Fin 5, t.stage[k] = { instr := none, value := 0 }) ∧
    t.stall = false ∧ t.booted = false ∧ t.excPending = false ∧ t.cycles = 0 ∧ t.instret = 0 ∧
    SameBus s t

/-- The construction column of 10_state.md R38 (decisions D3, D5, D16 to D21, D24, D29, D35; log entries 12 to
14): the state a run starts from. The model's own `deviceLog` (log entry 2) is not part of the statement. -/
def Obligations.ConstructionValues : Prop :=
  (∀ k, readGpr State.reset k = 0) ∧ (∀ k, readFpr State.reset k = 0) ∧ State.reset.pc = 0 ∧
    State.reset.hi = 0 ∧ State.reset.lo = 0 ∧ State.reset.status = 0 ∧ State.reset.cause = 0 ∧
    State.reset.epc = 0 ∧ State.reset.badvaddr = 0 ∧
    (∀ k : Fin 5, State.reset.stage[k] = { instr := none, value := 0 }) ∧
    State.reset.stall = false ∧ State.reset.booted = false ∧ State.reset.excPending = false ∧
    State.reset.cycles = 0 ∧ State.reset.instret = 0 ∧
    State.reset.busmap = [{ base := 0, size := 0x400000, dev := .memory }] ∧
    (∀ o, memReadByte State.reset.mem o = 0) ∧ State.reset.romImage = []

/-! ### Decoding -/

/-- Words of 95_test_vectors.md sections 2.1 and 2.6 decode to the instructions they stand for (opcode number and
field positions: the spec's decisions D9 and D10, log entry 11; that the word 0 is the constructor NOP and not
`passOp00` is the model's choice, log entry 8). -/
def Obligations.WrittenWordsDecode : Prop :=
  decodeWord 0x00000000 = .nop ∧ decodeWord 0x24221805 = .addiu 1 2 0x1805 ∧
    decodeWord 0x27E0F801 = .addiu 31 0 0xF801 ∧ decodeWord 0x00000820 = .passOp00 0 0 0x0820 ∧
    decodeWord 0x0800F800 = .passOp02 0 0 0xF800 ∧ decodeWord 0x20000001 = .passOp08 0 0 0x0001 ∧
    decodeWord 0x42000018 = .passOp10 16 0 0x0018 ∧ decodeWord 0x8C220000 = .passOp23 1 2 0x0000 ∧
    decodeWord 0xAC221800 = .passOp2B 1 2 0x1800 ∧ decodeWord 0xFFFFFFFF = .passOp3F 31 31 0xFFFF

/-- Decoding the word of a well-formed instruction gives it back, with every operand (30_encoding.md sections
1 to 3, decisions D9 and D10; log entries 8 and 11). -/
def Obligations.DecodeOfEncode : Prop :=
  ∀ i : Instr, i.wellFormed = true → decodeWord (encode i) = i

/-- Every word is the word of the one well-formed instruction it decodes to: no encoding is illegal or
reserved (30_encoding.md section 4, decisions D9 and D10; log entries 8 and 11). -/
def Obligations.EncodeOfDecode : Prop :=
  ∀ w : Word, (decodeWord w).wellFormed = true ∧ encode (decodeWord w) = w

/-- The fields of a decoded word's record, as numbers (30_encoding.md R81, decision D10, log entry 11), and how
they overlap (R82). -/
def Obligations.DecodedRecordFields : Prop :=
  ∀ w : Word, (decodeWord w).record = decodeRecord w ∧
    (decodeRecord w).opcode.toNat = w.toNat / 2 ^ 26 ∧
    (decodeRecord w).rs.toNat = w.toNat / 2 ^ 21 % 2 ^ 5 ∧
    (decodeRecord w).rt.toNat = w.toNat / 2 ^ 16 % 2 ^ 5 ∧
    (decodeRecord w).rd.toNat = w.toNat / 2 ^ 11 % 2 ^ 5 ∧
    (decodeRecord w).imm.toNat = w.toNat % 2 ^ 16 ∧
    (decodeRecord w).target.toNat = w.toNat % 2 ^ 26 ∧
    (decodeRecord w).rd.toNat = (decodeRecord w).imm.toNat / 2 ^ 11 ∧
    (decodeRecord w).target.toNat / 2 ^ 16 =
      (decodeRecord w).rs.toNat * 2 ^ 5 + (decodeRecord w).rt.toNat

/-- The opcode map (30_encoding.md R86, decision D9, log entry 11): ADDIU is opcode 9 and nothing else; NOP is
the one word 0 (R87, R142; log entry 8). -/
def Obligations.OpcodeMapClasses : Prop :=
  ∀ w : Word, ((∃ rs rt imm, decodeWord w = .addiu rs rt imm) ↔ w.toNat / 2 ^ 26 = 9) ∧
    (decodeWord w = .nop ↔ w = 0)

/-- Every instruction is four bytes, big-endian, and none is refused; fewer bytes are refused by name
(30_encoding.md sections 1 and 4; 20_memory.md R65). -/
def Obligations.FourBytesDecode : Prop :=
  (∀ (b0 b1 b2 b3 : Byte) (rest : List Byte), decodeBytes (b0 :: b1 :: b2 :: b3 :: rest) =
    .ok (decodeWord (BitVec.ofNat 32
      (b0.toNat * 2 ^ 24 + b1.toNat * 2 ^ 16 + b2.toNat * 2 ^ 8 + b3.toNat)), rest)) ∧
  ∀ bytes : List Byte, bytes.length < 4 → decodeBytes bytes = .error .truncated

/-! ### What each instruction does -/

/-- ADDIU completes: with `stall` clear its record, all fields as in its word, enters the pipeline, and
nothing but what the advance does changes (41_pipeline.md section 1; 42_instructions.md section 1;
decisions D8, D9, D33, log entries 1 and 9 to 11). -/
def Obligations.AddiuEntersPipeline : Prop :=
  ∀ (rs rt : RegIdx) (imm : Imm16) (s : State), s.stall = false →
    ∃ t, exec (.addiu rs rt imm) s = .next t ∧
      Enters (decodeRecord ((0b001001#6) ++ rs ++ rt ++ imm)) s t

/-- Each of the 63 pass-through instructions, `passOp00` to `passOp3F` (every constructor but `addiu` and `nop`),
completes in the same way, whatever its opcode (42_instructions.md section 2; 41_pipeline.md
section 1; decisions D8, D33, log entries 1, 9 and 10). -/
def Obligations.PassThroughEntersPipeline : Prop :=
  ∀ (i : Instr) (s : State), (∀ rs rt imm, i ≠ .addiu rs rt imm) → i ≠ .nop → s.stall = false →
    ∃ t, exec i s = .next t ∧ Enters (decodeRecord (encode i)) s t

/-- NOP completes: a record with every field 0 enters the pipeline (42_instructions.md section 3; 30_encoding.md
section 4; decisions D11, D33, log entries 1, 9 and 10). -/
def Obligations.NopEntersPipeline : Prop :=
  ∀ s : State, s.stall = false → ∃ t, exec .nop s = .next t ∧
    Enters { opcode := 0, rs := 0, rt := 0, rd := 0, imm := 0, target := 0 } s t

/-- 41_pipeline.md R121: a stalled advance writes `stall <- 0`, returns none and does nothing else, for every
instruction; one set flag stalls one advance: the next one takes its record in; and no advance ever
sets the flag. -/
def Obligations.StalledAdvanceOnlyClearsStall : Prop :=
  (∀ (s : State), s.stall = true →
    (∀ i, exec i s = .next { s with stall := false }) ∧
    (∀ r, advance r s = ({ s with stall := false }, none)) ∧
    ∀ r, ∃ t p, advance r { s with stall := false } = (t, some p) ∧
      t.stage[0].instr = some r) ∧
  ∀ (r : InstrRecord) (s : State), (advance r s).1.stall = false

/-- 41_pipeline.md R131 and 42_instructions.md R140 (decisions D8, D9, D33; log entries 9 to
11): ADDIU's slot gets the wrapped sum
at the first advance after it entered, from the registers as that advance's writeback left them; the
fifth writes the sum into `gpr[imm[15:11]]` and no other register, or nothing when that is register 0.
`rt` does not matter. -/
def Obligations.AddiuWritesSumAtFifthAdvance : Prop :=
  ∀ (rs rt : RegIdx) (imm : Imm16) (j1 j2 j3 j4 j5 : Instr) (s : State), s.stall = false →
    ∃ s1 s2 s5 s6, exec (.addiu rs rt imm) s = .next s1 ∧ exec j1 s1 = .next s2 ∧
      execAll [j2, j3, j4] s2 = .next s5 ∧ exec j5 s5 = .next s6 ∧
      s2.stage[1].value = mask32 ((readGpr s2 rs).toNat + imm.toNat) ∧
      ∀ k : RegIdx, readGpr s6 k =
        if k.toNat = imm.toNat / 2 ^ 11 ∧ k ≠ 0 then mask32 ((readGpr s2 rs).toNat + imm.toNat)
        else readGpr s5 k

/-- 42_instructions.md R141 (decision D33, log entry 10): a pass-through instruction keeps value 0 at execute, and the fifth
advance after it entered clears `gpr[rd]` and no other register, or nothing when `rd` is 0. Its
operands are all 26 bits below the opcode; `rd` is `imm[15:11]`. -/
def Obligations.PassThroughClearsAtFifthAdvance : Prop :=
  ∀ (i j1 j2 j3 j4 j5 : Instr) (s : State), (∀ rs rt imm, i ≠ .addiu rs rt imm) → s.stall = false →
    ∃ s1 s2 s5 s6, exec i s = .next s1 ∧ exec j1 s1 = .next s2 ∧
      execAll [j2, j3, j4] s2 = .next s5 ∧ exec j5 s5 = .next s6 ∧
      s2.stage[1].value = 0 ∧
      ∀ k : RegIdx, readGpr s6 k =
        if k.toNat = (encode i).toNat / 2 ^ 11 % 2 ^ 5 ∧ k ≠ 0 then 0 else readGpr s5 k

/-- 42_instructions.md R142 (decision D33, log entry 10): a NOP changes no register when it retires, whatever the slots and registers
held before. -/
def Obligations.NopRetiresWithoutEffect : Prop :=
  ∀ (j1 j2 j3 j4 j5 : Instr) (s : State), s.stall = false →
    ∃ s5 s6, execAll [.nop, j1, j2, j3, j4] s = .next s5 ∧ exec j5 s5 = .next s6 ∧
      ∀ k : RegIdx, readGpr s6 k = readGpr s5 k

/-- The frame of every instruction, stalled or not (41_pipeline.md sections 2, 3 and 7; 42_instructions.md
section 4): no memory byte, no bus state, no special register, no counter and no flag but `stall`
changes; the only general register that may change is the `rd` of the record that retires, and never
register 0 (decision D33, log entry 10). -/
def Obligations.EveryInstructionFrame : Prop :=
  ∀ (i : Instr) (s t : State), exec i s = .next t →
    Untouched s t ∧ t.stall = false ∧
      (s.stall = true → t.pc = s.pc ∧ t.stage = s.stage ∧ ∀ k, readGpr t k = readGpr s k) ∧
      (s.stall = false → t.pc = mask32 (s.pc.toNat + 4) ∧ Retired s.stage[4] s t)

/-! ### The advance -/

/-- 10_state.md R29: one shift for every non-stalled instruction, none for a stalled one, which consumes the
flag; no record in a slot ever changes, and only the value of the slot that execute works on does. -/
def Obligations.OneShiftPerNonStalledAdvance : Prop :=
  ∀ (i : Instr) (s t : State), exec i s = .next t →
    (s.stall = true → t.stall = false ∧ t.stage = s.stage) ∧
    (s.stall = false → t.stage[0].instr = some i.record ∧
      (∀ k : Fin 4, t.stage[k.succ].instr = s.stage[k.castSucc].instr) ∧
      ∀ k : Fin 4, k ≠ 0 → t.stage[k.succ].value = s.stage[k.castSucc].value)

/-- 41_pipeline.md R123 under both settings of `WB_GUARD_R0` (decision D33, log entry 10): which register a retiring slot
writes. -/
def Obligations.WritebackUnderBothGuards : Prop :=
  ∀ (guard : Bool) (old : Slot) (s : State) (k : RegIdx),
    readGpr (writebackWith guard old s) k =
      match old.instr with
      | none => readGpr s k
      | some r => if r.rd = k ∧ (k ≠ 0 ∨ guard = false) then old.value else readGpr s k

/-- 41_pipeline.md R124: the shift. -/
def Obligations.ShiftMovesEverySlot : Prop :=
  ∀ (r : InstrRecord) (s : State), (shiftIn r s).stage[0].instr = some r ∧
    ∀ k : Fin 4, (shiftIn r s).stage[k.succ] = s.stage[k.castSucc]

/-- 41_pipeline.md R125 and R130: a non-stalled advance adds 4 to `pc`, masked to 32 bits, whatever the slots
hold, and returns the value it wrote; a stalled one returns none. -/
def Obligations.AdvanceReturnsUpdatedPc : Prop :=
  ∀ (r : InstrRecord) (s : State),
    (s.stall = false → (advance r s).1.pc = mask32 (s.pc.toNat + 4) ∧
      (advance r s).2 = some (advance r s).1.pc) ∧
    (s.stall = true → (advance r s).2 = none)

/-- 41_pipeline.md R128: when the record in slot 1 has the ADDIU opcode, the advance stores the sum as that
slot's value, reading the register after the same advance's writeback (10_state.md R23); so it does
not see what slots 2 to 4 hold. -/
def Obligations.AdvanceExecutesAfterWriteback : Prop :=
  ∀ (r e : InstrRecord) (s : State), s.stall = false → s.stage[0].instr = some e →
    e.opcode = Config.addiuOpcode →
    (advance r s).1.stage[1] =
      { instr := some e
        value := mask32 ((readGpr (retire s) e.rs).toNat + (immval e.imm).toNat) } ∧
    ∀ k, readGpr (advance r s).1 k = readGpr (retire s) k

/-- 41_pipeline.md R129: execute does nothing on a bubble or another opcode, never writes anything but the value
of slot 1, and never reads memory: with any other memory it does the same. -/
def Obligations.ExecuteWritesOnlySlotOneValue : Prop :=
  ∀ s : State, ((∀ e, s.stage[1].instr = some e → e.opcode ≠ Config.addiuOpcode) → execute s = s) ∧
    (execute s).stage[1].instr = s.stage[1].instr ∧
    (∀ k : Fin 5, k ≠ 1 → (execute s).stage[k] = s.stage[k]) ∧
    (execute s).pc = s.pc ∧ (∀ k, readGpr (execute s) k = readGpr s k) ∧
    (execute s).stall = s.stall ∧ Untouched s (execute s) ∧
    ∀ m, execute (s.setMem m) = (execute s).setMem m

/-- 30_encoding.md R84 under both settings of `IMM_SIGNED` (decision D8, log entry 9), as numbers. -/
def Obligations.ImmediateUnderBothSettings : Prop :=
  ∀ imm : Imm16, immval imm = mask32 imm.toNat ∧ immvalWith false imm = mask32 imm.toNat ∧
    immvalWith true imm = mask32 imm.toInt

/-! ### Hazards -/

/-- 70_reset_and_hazards.md R190: an ADDIU that enters four or more advances after any instruction with
destination `x`, with no writer of `x` between them, reads its result: the sum an ADDIU computed at
execute, 0 after any other instruction (decisions D8, D9, D33, log entries 9 to 11). -/
def Obligations.ConsumerAtDistanceFourSeesResult : Prop :=
  ∀ (p j1 j : Instr) (js : List Instr) (rt x : RegIdx) (imm : Imm16) (s : State),
    s.stall = false → x ≠ 0 → p.record.rd = x → 2 ≤ js.length →
    j1.record.rd ≠ x → (∀ i ∈ js, i.record.rd ≠ x) →
    ∃ s2 u t, execAll [p, j1] s = .next s2 ∧
      execAll (js ++ [.addiu x rt imm]) s2 = .next u ∧ exec j u = .next t ∧
      s2.stage[1] = { instr := some p.record
                      value := if p.record.opcode = 9 then
                        mask32 ((readGpr s2 p.record.rs).toNat + p.record.imm.toNat) else 0 } ∧
      t.stage[1].value = mask32 (s2.stage[1].value.toNat + imm.toNat)

/-- 70_reset_and_hazards.md R190: an ADDIU that enters one, two or three advances after an instruction does not
depend on it: with any other instruction in its place the consumer computes the same value (decisions D8, D33, log
entries 9 and 10). -/
def Obligations.ConsumerBelowDistanceFourIgnoresProducer : Prop :=
  ∀ (p p' j : Instr) (js : List Instr) (rs rt : RegIdx) (imm : Imm16) (s : State),
    s.stall = false → js.length ≤ 2 →
    ∃ u t u' t', execAll (p :: js ++ [.addiu rs rt imm]) s = .next u ∧ exec j u = .next t ∧
      execAll (p' :: js ++ [.addiu rs rt imm]) s = .next u' ∧ exec j u' = .next t' ∧
      t.stage[1].value = mask32 ((readGpr t rs).toNat + imm.toNat) ∧
      t.stage[1].value = t'.stage[1].value ∧ readGpr t rs = readGpr t' rs

/-- 70_reset_and_hazards.md R191: of two instructions one after the other with the same destination the later
one's value remains: here a pass-through word after an ADDIU, which clears the register (decisions D8,
D33, log entries 9 and 10). -/
def Obligations.LaterWriterRemains : Prop :=
  ∀ (rs rt x : RegIdx) (imm : Imm16) (i j1 j2 j3 j4 j5 : Instr) (s : State), s.stall = false →
    x ≠ 0 → x.toNat = imm.toNat / 2 ^ 11 → (∀ a b c, i ≠ .addiu a b c) → i.record.rd = x →
    ∃ s2 s6 s7, exec (.addiu rs rt imm) s = .next s2 ∧
      execAll [i, j1, j2, j3, j4] s2 = .next s6 ∧ exec j5 s6 = .next s7 ∧
      (∃ s3, exec i s2 = .next s3 ∧
        readGpr s6 x = mask32 ((readGpr s3 rs).toNat + imm.toNat)) ∧
      readGpr s7 x = 0

/-! ### The step -/

/-- 40_controller.md R103 and R104: every booted step, stalled or not, makes exactly one bus read, at `pc - 4`
modulo 2^32 of the `pc` at its start, and runs the instruction the decoder makes of that word. -/
def Obligations.BootedStepReadsTheBusOnce : Prop :=
  ∀ (s : State) (w : Word) (u : State), s.booted = true →
    busRead32 s (mask32 (s.pc.toNat - 4)) = (w, u) →
    (decodeWord w).record = decodeRecord w ∧
    ∃ s', step s = exec (decodeWord w) s' ∧ SameBus u s' ∧ s'.pc = s.pc ∧ s'.stage = s.stage ∧
      s'.stall = s.stall ∧ ∀ k, readGpr s' k = readGpr s k

/-- A step runs the decoded instruction (40_controller.md section 3): on a booted state whose fetch address the
bus routes to the memory device, the step is the instruction of the word there, after both counters. -/
def Obligations.StepRunsFetchedInstruction : Prop :=
  ∀ (s : State) (i : Instr), s.booted = true → i.wellFormed = true →
    lookup s.busmap (busAlign (mask32 (s.pc.toNat - 4))) = some .memory →
    memRead s.mem (busAlign (mask32 (s.pc.toNat - 4))) = encode i →
    step s = exec i { s with cycles := s.cycles + 1, instret := s.instret + 1 }

/-- On a booted state whose fetch address no registration covers, the step runs NOP (20_memory.md section 5;
42_instructions.md section 3). -/
def Obligations.StepRunsNopWhereUnmapped : Prop :=
  ∀ s : State, s.booted = true → lookup s.busmap (busAlign (mask32 (s.pc.toNat - 4))) = none →
    step s = exec .nop { s with cycles := s.cycles + 1, instret := s.instret + 1 }

/-- On a booted state whose fetch address belongs to an external device, the step runs the instruction of the
word the device answers to that one read, whatever it is (20_memory.md section 2, decision D30). That the
answer is a function of the device, the address and the accesses so far is the model's form of a free value
(log entry 5). -/
def Obligations.StepRunsExternalWord : Prop :=
  ∀ (s : State) (id : Nat), s.booted = true →
    lookup s.busmap (busAlign (mask32 (s.pc.toNat - 4))) = some (.external id) →
    (busRead32 s (mask32 (s.pc.toNat - 4))).1 =
      Config.externalRead id (busAlign (mask32 (s.pc.toNat - 4))) s.deviceLog ∧
    step s = exec (decodeWord (busRead32 s (mask32 (s.pc.toNat - 4))).1)
      { s with
        cycles := s.cycles + 1, instret := s.instret + 1
        deviceLog := .read id (busAlign (mask32 (s.pc.toNat - 4))) :: s.deviceLog }

/-- The boot step (40_controller.md R102, decisions D4, D11, D13; log entries 3 and 21): `pc` forced to the entry vector, `booted` set,
the synthesized no-op without a bus access; not stalled it ends at the entry vector plus 4, stalled at
the entry vector. -/
def Obligations.BootStep : Prop :=
  ∀ s : State, s.booted = false →
    step s = exec .nop { s with
      cycles := s.cycles + 1, instret := s.instret + 1, pc := Config.entryVector, booted := true } ∧
    ∃ t, step s = .next t ∧ t.booted = true ∧ SameBus s t ∧
      (s.stall = false → t.pc = mask32 (Config.entryVector.toNat + 4) ∧
        t.stage[0] = { instr := some (decodeRecord 0), value := 0 }) ∧
      (s.stall = true → t.pc = Config.entryVector ∧ t.stage = s.stage)

/-- Every step from every state completes, and adds 1 to both counters (60_exceptions.md section 7;
40_controller.md section 1, decision D13, log entry 21). -/
def Obligations.EveryStepCompletesAndCounts : Prop :=
  ∀ s : State, ∃ t, step s = .next t ∧ t.cycles.toNat = (s.cycles.toNat + 1) % 2 ^ 64 ∧
    t.instret.toNat = (s.instret.toNat + 1) % 2 ^ 64

/-- 10_state.md R31: the first step after construction or reset sets `booted`, and only reset clears it; the
unbooted step, and no other, takes `pc` to the entry vector before its instruction runs. -/
def Obligations.OnlyResetClearsBooted : Prop :=
  State.reset.booted = false ∧ (∀ s : State, (hostReset s).booted = false) ∧
    (∀ s t : State, step s = .next t → t.booted = true) ∧
    (∀ s : State, (nextInstr s).2.pc = if s.booted then s.pc else Config.entryVector) ∧
    ∀ (op : HostOp) (s t : State) (reply : HostReply), hostOp op s = .next (t, reply) →
      s.booted = true → t.booted = false → op = .reset

/-- 40_controller.md R112: without stalls the steps fetch one word after the other, from the entry vector on,
and each counts once (decisions D11, D13, log entry 21). -/
def Obligations.FetchSequenceWithoutStalls : Prop :=
  ∀ (n : Nat) (s : State), s.stall = false →
    (s.booted = true → ∃ t, runSteps n s = .next t ∧ t.booted = true ∧ t.stall = false ∧
      fetchAddr t = mask32 ((fetchAddr s).toNat + 4 * n) ∧
      t.cycles = s.cycles + BitVec.ofNat 64 n) ∧
    (s.booted = false → ∃ t, runSteps (n + 1) s = .next t ∧ t.booted = true ∧ t.stall = false ∧
      fetchAddr t = mask32 (Config.entryVector.toNat + 4 * n) ∧
      t.cycles = s.cycles + BitVec.ofNat 64 (n + 1))

/-- 40_controller.md R107: a stalled booted step still counts and still fetches, discards the word, and leaves
`pc`, the slots and the registers; so the next step fetches the same address (decision D13, log entry
21). -/
def Obligations.StalledStepRepeatsFetch : Prop :=
  ∀ s : State, s.booted = true → s.stall = true →
    ∃ t, step s = .next t ∧ fetchAddr t = fetchAddr s ∧ t.stall = false ∧
      t.cycles = s.cycles + 1 ∧ t.instret = s.instret + 1 ∧ t.pc = s.pc ∧ t.stage = s.stage ∧
      (∀ k, readGpr t k = readGpr s k) ∧ SameUnread s t ∧ t.mem = s.mem ∧ t.busmap = s.busmap ∧
      t.deviceLog = (busRead32 s (fetchAddr s)).2.deviceLog

/-- 40_controller.md R108 and R109 (decision D14, log entry 16): a step's trace is the event `(cycles, pc)` of the state it
ends in when the cycle count is a multiple of 500, else nothing; the trace changes no state. -/
def Obligations.TraceEveryFiveHundredCycles : Prop :=
  ∀ s t : State, step s = .next t →
    hostOp .step s = .next (t, .trace
      (if t.cycles.toNat % 500 = 0 then [{ cycles := t.cycles, pc := t.pc }] else []))

/-- 40_controller.md R110 (decision D15, log entry 4): a frame is exactly `CYCLES_PER_FRAME` steps, at least one, and adds
that many to the cycle counter. -/
def Obligations.FrameRunsItsSteps : Prop :=
  1 ≤ Config.cyclesPerFrame ∧ ∀ s : State, ∃ t events,
    hostOp .stepFrame s = .next (t, .trace events) ∧ runSteps Config.cyclesPerFrame s = .next t ∧
    t.cycles = s.cycles + BitVec.ofNat 64 Config.cyclesPerFrame

/-- The word `withFetchWord` places is the one the very next step runs, not stalled, from every state whose
memory is in canonical form, with `pc`, slots and registers as before (the model's convention, log
entries 7 and 19). -/
def Obligations.FetchWordRunsNext : Prop :=
  ∀ (s : State) (w : Word), s.mem.wf = true → ∃ s', step (s.withFetchWord 32 w.toNat) = exec (decodeWord w) s' ∧
    s'.stall = false ∧ s'.booted = true ∧ s'.pc = s.pc ∧ s'.stage = s.stage ∧ s'.gpr = s.gpr

/-! ### Memory and bus -/

/-- 20_memory.md R60: the memory device's read is big-endian, each offset modulo the size, and a read that the
bus routes to it changes no state. -/
def Obligations.MemoryReadIsBigEndian : Prop :=
  (∀ (m : Memory) (a : Word), memRead m a = BitVec.ofNat 32
    ((memReadByte m (memOffset a)).toNat * 2 ^ 24 +
      (memReadByte m ((memOffset a + 1) % Config.memSize)).toNat * 2 ^ 16 +
      (memReadByte m ((memOffset a + 2) % Config.memSize)).toNat * 2 ^ 8 +
      (memReadByte m ((memOffset a + 3) % Config.memSize)).toNat)) ∧
  ∀ (s : State) (a : Word), lookup s.busmap (busAlign a) = some .memory →
    (busRead32 s a).2 = s

/-- 20_memory.md R61: the memory device's write stores the four bytes of the value, the highest at the lowest
offset, each offset modulo the size; every other byte is unchanged, and a write that the bus routes to
it is that write of memory and changes no other state. (The bytes are those of a memory in canonical form,
log entry 19; the address that the bus hands over is aligned, decisions D2 and D23, log entry 22.) -/
def Obligations.MemoryWriteStoresFourBytes : Prop :=
  (∀ (m : Memory) (a v : Word), m.wf = true →
    (∀ j : Fin 4, memReadByte (memWrite m a v) ((memOffset a + j.val) % Config.memSize) =
      BitVec.ofNat 8 (v.toNat / 2 ^ (24 - 8 * j.val))) ∧
    ∀ o, (∀ j : Fin 4, o ≠ (memOffset a + j.val) % Config.memSize) →
      memReadByte (memWrite m a v) o = memReadByte m o) ∧
  ∀ (s : State) (a v : Word), lookup s.busmap (busAlign a) = some .memory →
    busWrite32 s a v = { s with mem := memWrite s.mem (busAlign a) v }

/-- A word read back is the word written (20_memory.md section 3), at every address of a memory in canonical form
(log entry 19). -/
def Obligations.MemoryReadAfterWrite : Prop :=
  ∀ (m : Memory) (a v : Word), m.wf = true → memRead (memWrite m a v) a = v

/-- 20_memory.md R62: through the bus an offset is a multiple of 4 below the size, so a word does not wrap, and
the mask has no visible effect for this size (decisions D2, D6, D7, log entries 12 and 22). -/
def Obligations.AlignedOffsetsDoNotWrap : Prop :=
  ∀ a : Word, memOffset (busAlign a) % 4 = 0 ∧ memOffset (busAlign a) + 3 < Config.memSize ∧
    memOffset (busAlign a) = (busAlign a).toNat % Config.memSize

/-- Every operation on memory keeps its canonical form (the model's representation of 10_state.md R35, log entry
19). -/
def Obligations.MemoryOperationsKeepCanonicalForm : Prop :=
  ∀ (m : Memory), m.wf = true → (∀ a v : Word, (memWrite m a v).wf = true) ∧
    ∀ (i : Nat) (bytes : List Byte), (loadBytesFrom i bytes m).wf = true

/-- Canonical memories that read alike at every offset are equal data (the model's representation of
10_state.md R35, log entry 19). -/
def Obligations.CanonicalMemoriesAreDetermined : Prop :=
  ∀ m m' : Memory, m.wf = true → m'.wf = true →
    (∀ o, memReadByte m o = memReadByte m' o) → m = m'

/-- 20_memory.md R63 (decision D35): after `load_rom` the byte at an offset is the last image byte whose index
is that offset modulo the size; a byte no index reaches keeps its value; the image is kept; nothing
else changes (memory in canonical form, log entry 19). -/
def Obligations.LoadRomCopiesImage : Prop :=
  ∀ (bytes : List Byte) (s : State), s.mem.wf = true → ∃ t, hostOp (.loadRom bytes) s = .next (t, .nothing) ∧
    (∀ (i : Nat) (b : Byte), bytes[i]? = some b → bytes.length ≤ i + Config.memSize →
      memReadByte t.mem (i % Config.memSize) = b) ∧
    (∀ o, (∀ i, i < bytes.length → i % Config.memSize ≠ o) →
      memReadByte t.mem o = memReadByte s.mem o) ∧
    t.romImage = bytes ∧ t.busmap = s.busmap ∧ t.deviceLog = s.deviceLog ∧ SameCore s t

/-- 20_memory.md R56: at an address no registration covers a read gives 0 and a write changes nothing. -/
def Obligations.UnmappedReadsZeroWritesNothing : Prop :=
  ∀ (s : State) (a v : Word), (∀ r ∈ s.busmap, covers r (busAlign a) = false) →
    busRead32 s a = (0, s) ∧ busWrite32 s a v = s

/-- 20_memory.md R51 (decision D22, log entry 22): the newest registration wins exactly on the aligned addresses in its range
of integers, without wrap; elsewhere the lookup is as before. -/
def Obligations.LastRegistrationWins : Prop :=
  ∀ (s : State) (base A : Word) (size : Nat) (dev : Device),
    lookup (registerDevice base size dev s).busmap A =
      if A.toNat % 4 = 0 ∧ base.toNat ≤ A.toNat ∧ A.toNat < base.toNat + size then some dev
      else lookup s.busmap A

/-- 20_memory.md R52, R66 (decision D2, log entry 22): an access at any address is the access at the word that contains it.
-/
def Obligations.BusMasksToAlignment : Prop :=
  ∀ (s : State) (a v : Word), (busAlign a).toNat = a.toNat - a.toNat % 4 ∧
    busRead32 s a = busRead32 s (busAlign a) ∧ busWrite32 s a v = busWrite32 s (busAlign a) v

/-- The host reads back the value it wrote, modulo 2^32, wherever the bus routes to the memory device
(20_memory.md sections 2 and 6, decisions D2 and D34, log entry 22; memory in canonical form, log entry 19). -/
def Obligations.HostReadsBackItsWrite : Prop :=
  ∀ (s : State) (addr v : Int), s.mem.wf = true → lookup s.busmap (busAlign (mask32 addr)) = some .memory →
    ∃ t, hostOp (.busWrite32 addr v) s = .next (t, .nothing) ∧
      hostOp (.busRead32 addr) t = .next (t, .word (mask32 v))

/-- 20_memory.md section 2 (decisions D23 and D30): an access to an external device leaves all of the block's own
state. The device gets the aligned address, and the value of a write; that the model logs the access, so that
a later read may answer otherwise, is the model's choice (log entries 5, 6 and 22). -/
def Obligations.ExternalAccessLeavesBlock : Prop :=
  ∀ (s : State) (a v : Word) (id : Nat), lookup s.busmap (busAlign a) = some (.external id) →
    busWrite32 s a v = { s with deviceLog := .write id (busAlign a) v :: s.deviceLog } ∧
    (busRead32 s a).2 = { s with deviceLog := .read id (busAlign a) :: s.deviceLog }

/-- 70_reset_and_hazards.md R194, 20_memory.md R72: the very next step fetches the word the host wrote at the
fetch address, and the records in flight keep theirs (decisions D2, D13, log entries 21 and 22; memory
in canonical form, log entry 19). -/
def Obligations.HostWriteIsFetchedNext : Prop :=
  ∀ (s : State) (w : Word), s.booted = true → s.mem.wf = true →
    lookup s.busmap (busAlign (fetchAddr s)) = some .memory →
    ∃ t, busWrite32 s (fetchAddr s) w = t ∧ t.stage = s.stage ∧
      step t = exec (decodeWord w) { t with cycles := s.cycles + 1, instret := s.instret + 1 }

/-- The memory and bus operations of the host leave the registers, the slots, the flags and the counters
(70_reset_and_hazards.md section 3; 20_memory.md section 6). -/
def Obligations.HostBusOperationsLeaveCore : Prop :=
  ∀ (op : HostOp) (s t : State) (reply : HostReply), hostOp op s = .next (t, reply) →
    (∃ bytes, op = .loadRom bytes) ∨ (∃ base size dev, op = .registerDevice base size dev) ∨
      (∃ addr, op = .busRead32 addr) ∨ (∃ addr v, op = .busWrite32 addr v) ∨ op = .observe →
    SameCore s t

/-- `set_stall` sets the flag, changes nothing else, and does nothing when the flag is set; observing changes
nothing (70_reset_and_hazards.md section 3, decision D21). -/
def Obligations.SetStallAndObserve : Prop :=
  ∀ s : State, hostOp .setStall s = .next ({ s with stall := true }, .nothing) ∧
    (s.stall = true → hostOp .setStall s = .next (s, .nothing)) ∧
    hostOp .observe s = .next (s, .observed s)

/-! ### Invariants and what does not matter -/

/-- The state after reset has the invariant (the values of log entries 12 to 14 are the spec's decisions). -/
def Obligations.ResetHasInvariant : Prop := BlockInv State.reset

/-- Every step keeps the invariant, from every state that has it: memory canonical (log entry 19), `gpr[0]` 0
(decision D33, log entry 10), what only reset writes unchanged, the fields of every record in agreement, value 0
in bubbles, pass-through slots and the newest slot, bubbles older than records, `pc` aligned as the entry
vector, both counters equal (log entry 21), the first registration kept. -/
def Obligations.StepKeepsInvariant : Prop :=
  ∀ s t : State, BlockInv s → step s = .next t → BlockInv t

/-- Every host operation keeps the same invariant, from every state that has it. -/
def Obligations.HostOperationsKeepInvariant : Prop :=
  ∀ (op : HostOp) (s t : State) (reply : HostReply), BlockInv s → hostOp op s = .next (t, reply) → BlockInv t

/-- No step changes `gpr[0]`, whatever it and the slots hold (10_state.md R22, decision D33, log entry 10). -/
def Obligations.NoStepChangesRegisterZero : Prop :=
  ∀ s t : State, step s = .next t → readGpr t 0 = readGpr s 0

/-- HI, LO, the floating-point and control registers, `exc_pending` and the ROM image are never read and never
written by a step (10_state.md sections 2, 4 and 5; 60_exceptions.md section 1): two states that differ in them only go on to
states that differ in them only, and each keeps its own. -/
def Obligations.UnreadStateDoesNotMatter : Prop :=
  ∀ s t s' : State, step s = .next t →
    s' = { s with
      hi := s'.hi, lo := s'.lo, fpr := s'.fpr, status := s'.status, cause := s'.cause
      epc := s'.epc, badvaddr := s'.badvaddr, excPending := s'.excPending
      romImage := s'.romImage } →
    SameUnread s t ∧ t.romImage = s.romImage ∧
    step s' = .next { t with
      hi := s'.hi, lo := s'.lo, fpr := s'.fpr, status := s'.status, cause := s'.cause
      epc := s'.epc, badvaddr := s'.badvaddr, excPending := s'.excPending
      romImage := s'.romImage }

/-! ### Runs -/

/-- A run of the block is a finite sequence of host operations, it always completes, and its end is the state
after the last one (60_exceptions.md section 7, decision D27): one more operation goes on from that end, and
what it gives back comes last. -/
def Obligations.RunEndsAfterItsLastOperation : Prop :=
  ∀ s : State, runHost [] s = .next (s, []) ∧
    ∀ (ops : List HostOp) (op : HostOp), ∃ t replies u reply,
      runHost ops s = .next (t, replies) ∧ replies.length = ops.length ∧
      hostOp op t = .next (u, reply) ∧ runHost (ops ++ [op]) s = .next (u, replies ++ [reply])
end

