-- ==== Sys2Proof/Laws/Memory.lean ====
section
/-! SUPPORT. The laws of one byte of memory, and the canonical form. -/

namespace Sys2Proof.Machine

/-- What the canonical form says of a list with a head. -/
theorem memCanonicalFrom_cons {lo : Nat} {c : Host.Cell} {m : Memory} :
    memCanonicalFrom lo (c :: m) = true ↔
      lo ≤ c.1 ∧ c.1 < Config.memSize ∧ c.2 ≠ Config.memInit ∧ memCanonicalFrom (c.1 + 1) m = true := by
  obtain ⟨o, b⟩ := c
  simp only [memCanonicalFrom, Bool.and_eq_true, decide_eq_true_eq, bne_iff_ne, ne_eq]
  tauto

/-- A list canonical from one offset on is canonical from a lower one on. -/
theorem memCanonicalFrom_mono {lo lo' : Nat} {m : Memory} (hle : lo' ≤ lo)
    (h : memCanonicalFrom lo m = true) : memCanonicalFrom lo' m = true := by
  cases m with
  | nil => rfl
  | cons c m =>
    rw [memCanonicalFrom_cons] at h ⊢
    exact ⟨hle.trans h.1, h.2⟩

/-- Below where a canonical list starts, every offset reads as unlisted. -/
theorem memReadByte_below {lo : Nat} {m : Memory} (h : memCanonicalFrom lo m = true) {o : Nat}
    (ho : o < lo) : memReadByte m o = Config.memInit := by
  induction m generalizing lo with
  | nil => rfl
  | cons c m ih =>
    obtain ⟨o', b'⟩ := c
    rw [memCanonicalFrom_cons] at h
    have hne : o ≠ o' := by omega
    rw [memReadByte, if_neg hne]
    exact ih h.2.2.2 (by omega)

/-- A byte write keeps the canonical form. -/
theorem memWriteByte_canonical {lo : Nat} {m : Memory} (h : memCanonicalFrom lo m = true) {o : Nat}
    (hlo : lo ≤ o) (ho : o < Config.memSize) (b : Byte) :
    memCanonicalFrom lo (memWriteByte m o b) = true := by
  induction m generalizing lo with
  | nil =>
    unfold memWriteByte
    split
    · rfl
    · rename_i hb
      exact memCanonicalFrom_cons.mpr ⟨hlo, ho, hb, rfl⟩
  | cons c m ih =>
    obtain ⟨o', b'⟩ := c
    have hc := memCanonicalFrom_cons.mp h
    unfold memWriteByte
    split
    · rename_i hlt
      split
      · exact h
      · rename_i hb
        exact memCanonicalFrom_cons.mpr
          ⟨hlo, ho, hb, memCanonicalFrom_cons.mpr ⟨hlt, hc.2⟩⟩
    · rename_i hlt
      split
      · rename_i heq
        subst heq
        split
        · exact memCanonicalFrom_mono (by omega) hc.2.2.2
        · rename_i hb
          exact memCanonicalFrom_cons.mpr ⟨hlo, ho, hb, hc.2.2.2⟩
      · rename_i hne
        refine memCanonicalFrom_cons.mpr ⟨hc.1, hc.2.1, hc.2.2.1, ?_⟩
        exact ih hc.2.2.2 (by simp only at hlt hne ⊢; omega)

/-- Reading a byte after writing one, in a canonical memory. -/
theorem memReadByte_memWriteByte {lo : Nat} {m : Memory} (h : memCanonicalFrom lo m = true)
    (o o' : Nat) (b : Byte) :
    memReadByte (memWriteByte m o b) o' = if o' = o then b else memReadByte m o' := by
  induction m generalizing lo with
  | nil =>
    unfold memWriteByte
    split
    · rename_i hb
      subst hb
      split <;> rfl
    · rfl
  | cons c m ih =>
    obtain ⟨p, q⟩ := c
    have hc := memCanonicalFrom_cons.mp h
    unfold memWriteByte
    split
    · rename_i hlt
      split
      · rename_i hb
        split
        · rename_i heq
          subst heq
          have hne : o' ≠ p := by omega
          rw [memReadByte, if_neg hne, hb]
          exact memReadByte_below hc.2.2.2 (by simp only; omega)
        · rfl
      · rfl
    · rename_i hlt
      split
      · rename_i heq
        subst heq
        split
        · rename_i hb
          subst hb
          split
          · rename_i heq
            subst heq
            exact memReadByte_below hc.2.2.2 (Nat.lt_succ_self _)
          · rename_i hne
            rw [memReadByte, if_neg hne]
        · rename_i hb
          simp only [memReadByte]
          split <;> rfl
      · rename_i hne
        simp only [memReadByte]
        rw [ih hc.2.2.2]
        split
        · rename_i heq
          subst heq
          rw [if_neg (fun h' => hne h'.symm)]
        · rfl

/-- A byte write keeps memory well-formed. -/
theorem memWriteByte_wf {m : Memory} (h : m.wf = true) {o : Nat} (ho : o < Config.memSize) (b : Byte) :
    Memory.wf (memWriteByte m o b) = true :=
  memWriteByte_canonical h (Nat.zero_le _) ho b

/-- A read at the offset written. -/
theorem memReadByte_memWriteByte_same {m : Memory} (h : m.wf = true) (o : Nat) (b : Byte) :
    memReadByte (memWriteByte m o b) o = b := by
  rw [memReadByte_memWriteByte h, if_pos rfl]

/-- A read at any other offset. -/
theorem memReadByte_memWriteByte_other {m : Memory} (h : m.wf = true) {o o' : Nat} (hne : o' ≠ o)
    (b : Byte) : memReadByte (memWriteByte m o b) o' = memReadByte m o' := by
  rw [memReadByte_memWriteByte h, if_neg hne]

/-- An offset is below the size. -/
theorem memOffset_lt (a : Word) : memOffset a < Config.memSize :=
  Nat.mod_lt _ (by decide)

/-- An offset modulo the size is below the size. -/
theorem mod_memSize_lt (n : Nat) : n % Config.memSize < Config.memSize :=
  Nat.mod_lt _ (by decide)

end Sys2Proof.Machine
end

