-- ==== Sys2Proof/Laws/State.lean ====
section
/-! SUPPORT. One lemma per field per update of State, each true by `rfl`, so that no later proof unfolds a
record update; and two states with equal fields are equal. -/

namespace Sys2Proof.Machine

@[simp] theorem State.setGpr_gpr (s : State) (v : Vector Word 32) : (s.setGpr v).gpr = v := rfl
@[simp] theorem State.setGpr_pc (s : State) (v : Vector Word 32) : (s.setGpr v).pc = s.pc := rfl
@[simp] theorem State.setGpr_hi (s : State) (v : Vector Word 32) : (s.setGpr v).hi = s.hi := rfl
@[simp] theorem State.setGpr_lo (s : State) (v : Vector Word 32) : (s.setGpr v).lo = s.lo := rfl
@[simp] theorem State.setGpr_fpr (s : State) (v : Vector Word 32) : (s.setGpr v).fpr = s.fpr := rfl
@[simp] theorem State.setGpr_status (s : State) (v : Vector Word 32) : (s.setGpr v).status = s.status := rfl
@[simp] theorem State.setGpr_cause (s : State) (v : Vector Word 32) : (s.setGpr v).cause = s.cause := rfl
@[simp] theorem State.setGpr_epc (s : State) (v : Vector Word 32) : (s.setGpr v).epc = s.epc := rfl
@[simp] theorem State.setGpr_badvaddr (s : State) (v : Vector Word 32) : (s.setGpr v).badvaddr = s.badvaddr := rfl
@[simp] theorem State.setGpr_stage (s : State) (v : Vector Word 32) : (s.setGpr v).stage = s.stage := rfl
@[simp] theorem State.setGpr_stall (s : State) (v : Vector Word 32) : (s.setGpr v).stall = s.stall := rfl
@[simp] theorem State.setGpr_booted (s : State) (v : Vector Word 32) : (s.setGpr v).booted = s.booted := rfl
@[simp] theorem State.setGpr_excPending (s : State) (v : Vector Word 32) : (s.setGpr v).excPending = s.excPending := rfl
@[simp] theorem State.setGpr_cycles (s : State) (v : Vector Word 32) : (s.setGpr v).cycles = s.cycles := rfl
@[simp] theorem State.setGpr_instret (s : State) (v : Vector Word 32) : (s.setGpr v).instret = s.instret := rfl
@[simp] theorem State.setGpr_busmap (s : State) (v : Vector Word 32) : (s.setGpr v).busmap = s.busmap := rfl
@[simp] theorem State.setGpr_mem (s : State) (v : Vector Word 32) : (s.setGpr v).mem = s.mem := rfl
@[simp] theorem State.setGpr_romImage (s : State) (v : Vector Word 32) : (s.setGpr v).romImage = s.romImage := rfl
@[simp] theorem State.setGpr_deviceLog (s : State) (v : Vector Word 32) : (s.setGpr v).deviceLog = s.deviceLog := rfl

@[simp] theorem State.setPc_gpr (s : State) (v : Word) : (s.setPc v).gpr = s.gpr := rfl
@[simp] theorem State.setPc_pc (s : State) (v : Word) : (s.setPc v).pc = v := rfl
@[simp] theorem State.setPc_hi (s : State) (v : Word) : (s.setPc v).hi = s.hi := rfl
@[simp] theorem State.setPc_lo (s : State) (v : Word) : (s.setPc v).lo = s.lo := rfl
@[simp] theorem State.setPc_fpr (s : State) (v : Word) : (s.setPc v).fpr = s.fpr := rfl
@[simp] theorem State.setPc_status (s : State) (v : Word) : (s.setPc v).status = s.status := rfl
@[simp] theorem State.setPc_cause (s : State) (v : Word) : (s.setPc v).cause = s.cause := rfl
@[simp] theorem State.setPc_epc (s : State) (v : Word) : (s.setPc v).epc = s.epc := rfl
@[simp] theorem State.setPc_badvaddr (s : State) (v : Word) : (s.setPc v).badvaddr = s.badvaddr := rfl
@[simp] theorem State.setPc_stage (s : State) (v : Word) : (s.setPc v).stage = s.stage := rfl
@[simp] theorem State.setPc_stall (s : State) (v : Word) : (s.setPc v).stall = s.stall := rfl
@[simp] theorem State.setPc_booted (s : State) (v : Word) : (s.setPc v).booted = s.booted := rfl
@[simp] theorem State.setPc_excPending (s : State) (v : Word) : (s.setPc v).excPending = s.excPending := rfl
@[simp] theorem State.setPc_cycles (s : State) (v : Word) : (s.setPc v).cycles = s.cycles := rfl
@[simp] theorem State.setPc_instret (s : State) (v : Word) : (s.setPc v).instret = s.instret := rfl
@[simp] theorem State.setPc_busmap (s : State) (v : Word) : (s.setPc v).busmap = s.busmap := rfl
@[simp] theorem State.setPc_mem (s : State) (v : Word) : (s.setPc v).mem = s.mem := rfl
@[simp] theorem State.setPc_romImage (s : State) (v : Word) : (s.setPc v).romImage = s.romImage := rfl
@[simp] theorem State.setPc_deviceLog (s : State) (v : Word) : (s.setPc v).deviceLog = s.deviceLog := rfl

@[simp] theorem State.setStage_gpr (s : State) (v : Vector Slot 5) : (s.setStage v).gpr = s.gpr := rfl
@[simp] theorem State.setStage_pc (s : State) (v : Vector Slot 5) : (s.setStage v).pc = s.pc := rfl
@[simp] theorem State.setStage_hi (s : State) (v : Vector Slot 5) : (s.setStage v).hi = s.hi := rfl
@[simp] theorem State.setStage_lo (s : State) (v : Vector Slot 5) : (s.setStage v).lo = s.lo := rfl
@[simp] theorem State.setStage_fpr (s : State) (v : Vector Slot 5) : (s.setStage v).fpr = s.fpr := rfl
@[simp] theorem State.setStage_status (s : State) (v : Vector Slot 5) : (s.setStage v).status = s.status := rfl
@[simp] theorem State.setStage_cause (s : State) (v : Vector Slot 5) : (s.setStage v).cause = s.cause := rfl
@[simp] theorem State.setStage_epc (s : State) (v : Vector Slot 5) : (s.setStage v).epc = s.epc := rfl
@[simp] theorem State.setStage_badvaddr (s : State) (v : Vector Slot 5) : (s.setStage v).badvaddr = s.badvaddr := rfl
@[simp] theorem State.setStage_stage (s : State) (v : Vector Slot 5) : (s.setStage v).stage = v := rfl
@[simp] theorem State.setStage_stall (s : State) (v : Vector Slot 5) : (s.setStage v).stall = s.stall := rfl
@[simp] theorem State.setStage_booted (s : State) (v : Vector Slot 5) : (s.setStage v).booted = s.booted := rfl
@[simp] theorem State.setStage_excPending (s : State) (v : Vector Slot 5) : (s.setStage v).excPending = s.excPending := rfl
@[simp] theorem State.setStage_cycles (s : State) (v : Vector Slot 5) : (s.setStage v).cycles = s.cycles := rfl
@[simp] theorem State.setStage_instret (s : State) (v : Vector Slot 5) : (s.setStage v).instret = s.instret := rfl
@[simp] theorem State.setStage_busmap (s : State) (v : Vector Slot 5) : (s.setStage v).busmap = s.busmap := rfl
@[simp] theorem State.setStage_mem (s : State) (v : Vector Slot 5) : (s.setStage v).mem = s.mem := rfl
@[simp] theorem State.setStage_romImage (s : State) (v : Vector Slot 5) : (s.setStage v).romImage = s.romImage := rfl
@[simp] theorem State.setStage_deviceLog (s : State) (v : Vector Slot 5) : (s.setStage v).deviceLog = s.deviceLog := rfl

@[simp] theorem State.setStall_gpr (s : State) (v : Bool) : (s.setStall v).gpr = s.gpr := rfl
@[simp] theorem State.setStall_pc (s : State) (v : Bool) : (s.setStall v).pc = s.pc := rfl
@[simp] theorem State.setStall_hi (s : State) (v : Bool) : (s.setStall v).hi = s.hi := rfl
@[simp] theorem State.setStall_lo (s : State) (v : Bool) : (s.setStall v).lo = s.lo := rfl
@[simp] theorem State.setStall_fpr (s : State) (v : Bool) : (s.setStall v).fpr = s.fpr := rfl
@[simp] theorem State.setStall_status (s : State) (v : Bool) : (s.setStall v).status = s.status := rfl
@[simp] theorem State.setStall_cause (s : State) (v : Bool) : (s.setStall v).cause = s.cause := rfl
@[simp] theorem State.setStall_epc (s : State) (v : Bool) : (s.setStall v).epc = s.epc := rfl
@[simp] theorem State.setStall_badvaddr (s : State) (v : Bool) : (s.setStall v).badvaddr = s.badvaddr := rfl
@[simp] theorem State.setStall_stage (s : State) (v : Bool) : (s.setStall v).stage = s.stage := rfl
@[simp] theorem State.setStall_stall (s : State) (v : Bool) : (s.setStall v).stall = v := rfl
@[simp] theorem State.setStall_booted (s : State) (v : Bool) : (s.setStall v).booted = s.booted := rfl
@[simp] theorem State.setStall_excPending (s : State) (v : Bool) : (s.setStall v).excPending = s.excPending := rfl
@[simp] theorem State.setStall_cycles (s : State) (v : Bool) : (s.setStall v).cycles = s.cycles := rfl
@[simp] theorem State.setStall_instret (s : State) (v : Bool) : (s.setStall v).instret = s.instret := rfl
@[simp] theorem State.setStall_busmap (s : State) (v : Bool) : (s.setStall v).busmap = s.busmap := rfl
@[simp] theorem State.setStall_mem (s : State) (v : Bool) : (s.setStall v).mem = s.mem := rfl
@[simp] theorem State.setStall_romImage (s : State) (v : Bool) : (s.setStall v).romImage = s.romImage := rfl
@[simp] theorem State.setStall_deviceLog (s : State) (v : Bool) : (s.setStall v).deviceLog = s.deviceLog := rfl

@[simp] theorem State.setBooted_gpr (s : State) (v : Bool) : (s.setBooted v).gpr = s.gpr := rfl
@[simp] theorem State.setBooted_pc (s : State) (v : Bool) : (s.setBooted v).pc = s.pc := rfl
@[simp] theorem State.setBooted_hi (s : State) (v : Bool) : (s.setBooted v).hi = s.hi := rfl
@[simp] theorem State.setBooted_lo (s : State) (v : Bool) : (s.setBooted v).lo = s.lo := rfl
@[simp] theorem State.setBooted_fpr (s : State) (v : Bool) : (s.setBooted v).fpr = s.fpr := rfl
@[simp] theorem State.setBooted_status (s : State) (v : Bool) : (s.setBooted v).status = s.status := rfl
@[simp] theorem State.setBooted_cause (s : State) (v : Bool) : (s.setBooted v).cause = s.cause := rfl
@[simp] theorem State.setBooted_epc (s : State) (v : Bool) : (s.setBooted v).epc = s.epc := rfl
@[simp] theorem State.setBooted_badvaddr (s : State) (v : Bool) : (s.setBooted v).badvaddr = s.badvaddr := rfl
@[simp] theorem State.setBooted_stage (s : State) (v : Bool) : (s.setBooted v).stage = s.stage := rfl
@[simp] theorem State.setBooted_stall (s : State) (v : Bool) : (s.setBooted v).stall = s.stall := rfl
@[simp] theorem State.setBooted_booted (s : State) (v : Bool) : (s.setBooted v).booted = v := rfl
@[simp] theorem State.setBooted_excPending (s : State) (v : Bool) : (s.setBooted v).excPending = s.excPending := rfl
@[simp] theorem State.setBooted_cycles (s : State) (v : Bool) : (s.setBooted v).cycles = s.cycles := rfl
@[simp] theorem State.setBooted_instret (s : State) (v : Bool) : (s.setBooted v).instret = s.instret := rfl
@[simp] theorem State.setBooted_busmap (s : State) (v : Bool) : (s.setBooted v).busmap = s.busmap := rfl
@[simp] theorem State.setBooted_mem (s : State) (v : Bool) : (s.setBooted v).mem = s.mem := rfl
@[simp] theorem State.setBooted_romImage (s : State) (v : Bool) : (s.setBooted v).romImage = s.romImage := rfl
@[simp] theorem State.setBooted_deviceLog (s : State) (v : Bool) : (s.setBooted v).deviceLog = s.deviceLog := rfl

@[simp] theorem State.setCycles_gpr (s : State) (v : DWord) : (s.setCycles v).gpr = s.gpr := rfl
@[simp] theorem State.setCycles_pc (s : State) (v : DWord) : (s.setCycles v).pc = s.pc := rfl
@[simp] theorem State.setCycles_hi (s : State) (v : DWord) : (s.setCycles v).hi = s.hi := rfl
@[simp] theorem State.setCycles_lo (s : State) (v : DWord) : (s.setCycles v).lo = s.lo := rfl
@[simp] theorem State.setCycles_fpr (s : State) (v : DWord) : (s.setCycles v).fpr = s.fpr := rfl
@[simp] theorem State.setCycles_status (s : State) (v : DWord) : (s.setCycles v).status = s.status := rfl
@[simp] theorem State.setCycles_cause (s : State) (v : DWord) : (s.setCycles v).cause = s.cause := rfl
@[simp] theorem State.setCycles_epc (s : State) (v : DWord) : (s.setCycles v).epc = s.epc := rfl
@[simp] theorem State.setCycles_badvaddr (s : State) (v : DWord) : (s.setCycles v).badvaddr = s.badvaddr := rfl
@[simp] theorem State.setCycles_stage (s : State) (v : DWord) : (s.setCycles v).stage = s.stage := rfl
@[simp] theorem State.setCycles_stall (s : State) (v : DWord) : (s.setCycles v).stall = s.stall := rfl
@[simp] theorem State.setCycles_booted (s : State) (v : DWord) : (s.setCycles v).booted = s.booted := rfl
@[simp] theorem State.setCycles_excPending (s : State) (v : DWord) : (s.setCycles v).excPending = s.excPending := rfl
@[simp] theorem State.setCycles_cycles (s : State) (v : DWord) : (s.setCycles v).cycles = v := rfl
@[simp] theorem State.setCycles_instret (s : State) (v : DWord) : (s.setCycles v).instret = s.instret := rfl
@[simp] theorem State.setCycles_busmap (s : State) (v : DWord) : (s.setCycles v).busmap = s.busmap := rfl
@[simp] theorem State.setCycles_mem (s : State) (v : DWord) : (s.setCycles v).mem = s.mem := rfl
@[simp] theorem State.setCycles_romImage (s : State) (v : DWord) : (s.setCycles v).romImage = s.romImage := rfl
@[simp] theorem State.setCycles_deviceLog (s : State) (v : DWord) : (s.setCycles v).deviceLog = s.deviceLog := rfl

@[simp] theorem State.setInstret_gpr (s : State) (v : DWord) : (s.setInstret v).gpr = s.gpr := rfl
@[simp] theorem State.setInstret_pc (s : State) (v : DWord) : (s.setInstret v).pc = s.pc := rfl
@[simp] theorem State.setInstret_hi (s : State) (v : DWord) : (s.setInstret v).hi = s.hi := rfl
@[simp] theorem State.setInstret_lo (s : State) (v : DWord) : (s.setInstret v).lo = s.lo := rfl
@[simp] theorem State.setInstret_fpr (s : State) (v : DWord) : (s.setInstret v).fpr = s.fpr := rfl
@[simp] theorem State.setInstret_status (s : State) (v : DWord) : (s.setInstret v).status = s.status := rfl
@[simp] theorem State.setInstret_cause (s : State) (v : DWord) : (s.setInstret v).cause = s.cause := rfl
@[simp] theorem State.setInstret_epc (s : State) (v : DWord) : (s.setInstret v).epc = s.epc := rfl
@[simp] theorem State.setInstret_badvaddr (s : State) (v : DWord) : (s.setInstret v).badvaddr = s.badvaddr := rfl
@[simp] theorem State.setInstret_stage (s : State) (v : DWord) : (s.setInstret v).stage = s.stage := rfl
@[simp] theorem State.setInstret_stall (s : State) (v : DWord) : (s.setInstret v).stall = s.stall := rfl
@[simp] theorem State.setInstret_booted (s : State) (v : DWord) : (s.setInstret v).booted = s.booted := rfl
@[simp] theorem State.setInstret_excPending (s : State) (v : DWord) : (s.setInstret v).excPending = s.excPending := rfl
@[simp] theorem State.setInstret_cycles (s : State) (v : DWord) : (s.setInstret v).cycles = s.cycles := rfl
@[simp] theorem State.setInstret_instret (s : State) (v : DWord) : (s.setInstret v).instret = v := rfl
@[simp] theorem State.setInstret_busmap (s : State) (v : DWord) : (s.setInstret v).busmap = s.busmap := rfl
@[simp] theorem State.setInstret_mem (s : State) (v : DWord) : (s.setInstret v).mem = s.mem := rfl
@[simp] theorem State.setInstret_romImage (s : State) (v : DWord) : (s.setInstret v).romImage = s.romImage := rfl
@[simp] theorem State.setInstret_deviceLog (s : State) (v : DWord) : (s.setInstret v).deviceLog = s.deviceLog := rfl

@[simp] theorem State.setBusmap_gpr (s : State) (v : List Registration) : (s.setBusmap v).gpr = s.gpr := rfl
@[simp] theorem State.setBusmap_pc (s : State) (v : List Registration) : (s.setBusmap v).pc = s.pc := rfl
@[simp] theorem State.setBusmap_hi (s : State) (v : List Registration) : (s.setBusmap v).hi = s.hi := rfl
@[simp] theorem State.setBusmap_lo (s : State) (v : List Registration) : (s.setBusmap v).lo = s.lo := rfl
@[simp] theorem State.setBusmap_fpr (s : State) (v : List Registration) : (s.setBusmap v).fpr = s.fpr := rfl
@[simp] theorem State.setBusmap_status (s : State) (v : List Registration) : (s.setBusmap v).status = s.status := rfl
@[simp] theorem State.setBusmap_cause (s : State) (v : List Registration) : (s.setBusmap v).cause = s.cause := rfl
@[simp] theorem State.setBusmap_epc (s : State) (v : List Registration) : (s.setBusmap v).epc = s.epc := rfl
@[simp] theorem State.setBusmap_badvaddr (s : State) (v : List Registration) : (s.setBusmap v).badvaddr = s.badvaddr := rfl
@[simp] theorem State.setBusmap_stage (s : State) (v : List Registration) : (s.setBusmap v).stage = s.stage := rfl
@[simp] theorem State.setBusmap_stall (s : State) (v : List Registration) : (s.setBusmap v).stall = s.stall := rfl
@[simp] theorem State.setBusmap_booted (s : State) (v : List Registration) : (s.setBusmap v).booted = s.booted := rfl
@[simp] theorem State.setBusmap_excPending (s : State) (v : List Registration) : (s.setBusmap v).excPending = s.excPending := rfl
@[simp] theorem State.setBusmap_cycles (s : State) (v : List Registration) : (s.setBusmap v).cycles = s.cycles := rfl
@[simp] theorem State.setBusmap_instret (s : State) (v : List Registration) : (s.setBusmap v).instret = s.instret := rfl
@[simp] theorem State.setBusmap_busmap (s : State) (v : List Registration) : (s.setBusmap v).busmap = v := rfl
@[simp] theorem State.setBusmap_mem (s : State) (v : List Registration) : (s.setBusmap v).mem = s.mem := rfl
@[simp] theorem State.setBusmap_romImage (s : State) (v : List Registration) : (s.setBusmap v).romImage = s.romImage := rfl
@[simp] theorem State.setBusmap_deviceLog (s : State) (v : List Registration) : (s.setBusmap v).deviceLog = s.deviceLog := rfl

@[simp] theorem State.setMem_gpr (s : State) (v : Memory) : (s.setMem v).gpr = s.gpr := rfl
@[simp] theorem State.setMem_pc (s : State) (v : Memory) : (s.setMem v).pc = s.pc := rfl
@[simp] theorem State.setMem_hi (s : State) (v : Memory) : (s.setMem v).hi = s.hi := rfl
@[simp] theorem State.setMem_lo (s : State) (v : Memory) : (s.setMem v).lo = s.lo := rfl
@[simp] theorem State.setMem_fpr (s : State) (v : Memory) : (s.setMem v).fpr = s.fpr := rfl
@[simp] theorem State.setMem_status (s : State) (v : Memory) : (s.setMem v).status = s.status := rfl
@[simp] theorem State.setMem_cause (s : State) (v : Memory) : (s.setMem v).cause = s.cause := rfl
@[simp] theorem State.setMem_epc (s : State) (v : Memory) : (s.setMem v).epc = s.epc := rfl
@[simp] theorem State.setMem_badvaddr (s : State) (v : Memory) : (s.setMem v).badvaddr = s.badvaddr := rfl
@[simp] theorem State.setMem_stage (s : State) (v : Memory) : (s.setMem v).stage = s.stage := rfl
@[simp] theorem State.setMem_stall (s : State) (v : Memory) : (s.setMem v).stall = s.stall := rfl
@[simp] theorem State.setMem_booted (s : State) (v : Memory) : (s.setMem v).booted = s.booted := rfl
@[simp] theorem State.setMem_excPending (s : State) (v : Memory) : (s.setMem v).excPending = s.excPending := rfl
@[simp] theorem State.setMem_cycles (s : State) (v : Memory) : (s.setMem v).cycles = s.cycles := rfl
@[simp] theorem State.setMem_instret (s : State) (v : Memory) : (s.setMem v).instret = s.instret := rfl
@[simp] theorem State.setMem_busmap (s : State) (v : Memory) : (s.setMem v).busmap = s.busmap := rfl
@[simp] theorem State.setMem_mem (s : State) (v : Memory) : (s.setMem v).mem = v := rfl
@[simp] theorem State.setMem_romImage (s : State) (v : Memory) : (s.setMem v).romImage = s.romImage := rfl
@[simp] theorem State.setMem_deviceLog (s : State) (v : Memory) : (s.setMem v).deviceLog = s.deviceLog := rfl

@[simp] theorem State.setRomImage_gpr (s : State) (v : List Byte) : (s.setRomImage v).gpr = s.gpr := rfl
@[simp] theorem State.setRomImage_pc (s : State) (v : List Byte) : (s.setRomImage v).pc = s.pc := rfl
@[simp] theorem State.setRomImage_hi (s : State) (v : List Byte) : (s.setRomImage v).hi = s.hi := rfl
@[simp] theorem State.setRomImage_lo (s : State) (v : List Byte) : (s.setRomImage v).lo = s.lo := rfl
@[simp] theorem State.setRomImage_fpr (s : State) (v : List Byte) : (s.setRomImage v).fpr = s.fpr := rfl
@[simp] theorem State.setRomImage_status (s : State) (v : List Byte) : (s.setRomImage v).status = s.status := rfl
@[simp] theorem State.setRomImage_cause (s : State) (v : List Byte) : (s.setRomImage v).cause = s.cause := rfl
@[simp] theorem State.setRomImage_epc (s : State) (v : List Byte) : (s.setRomImage v).epc = s.epc := rfl
@[simp] theorem State.setRomImage_badvaddr (s : State) (v : List Byte) : (s.setRomImage v).badvaddr = s.badvaddr := rfl
@[simp] theorem State.setRomImage_stage (s : State) (v : List Byte) : (s.setRomImage v).stage = s.stage := rfl
@[simp] theorem State.setRomImage_stall (s : State) (v : List Byte) : (s.setRomImage v).stall = s.stall := rfl
@[simp] theorem State.setRomImage_booted (s : State) (v : List Byte) : (s.setRomImage v).booted = s.booted := rfl
@[simp] theorem State.setRomImage_excPending (s : State) (v : List Byte) : (s.setRomImage v).excPending = s.excPending := rfl
@[simp] theorem State.setRomImage_cycles (s : State) (v : List Byte) : (s.setRomImage v).cycles = s.cycles := rfl
@[simp] theorem State.setRomImage_instret (s : State) (v : List Byte) : (s.setRomImage v).instret = s.instret := rfl
@[simp] theorem State.setRomImage_busmap (s : State) (v : List Byte) : (s.setRomImage v).busmap = s.busmap := rfl
@[simp] theorem State.setRomImage_mem (s : State) (v : List Byte) : (s.setRomImage v).mem = s.mem := rfl
@[simp] theorem State.setRomImage_romImage (s : State) (v : List Byte) : (s.setRomImage v).romImage = v := rfl
@[simp] theorem State.setRomImage_deviceLog (s : State) (v : List Byte) : (s.setRomImage v).deviceLog = s.deviceLog := rfl

@[simp] theorem State.setDeviceLog_gpr (s : State) (v : List DeviceAccess) : (s.setDeviceLog v).gpr = s.gpr := rfl
@[simp] theorem State.setDeviceLog_pc (s : State) (v : List DeviceAccess) : (s.setDeviceLog v).pc = s.pc := rfl
@[simp] theorem State.setDeviceLog_hi (s : State) (v : List DeviceAccess) : (s.setDeviceLog v).hi = s.hi := rfl
@[simp] theorem State.setDeviceLog_lo (s : State) (v : List DeviceAccess) : (s.setDeviceLog v).lo = s.lo := rfl
@[simp] theorem State.setDeviceLog_fpr (s : State) (v : List DeviceAccess) : (s.setDeviceLog v).fpr = s.fpr := rfl
@[simp] theorem State.setDeviceLog_status (s : State) (v : List DeviceAccess) : (s.setDeviceLog v).status = s.status := rfl
@[simp] theorem State.setDeviceLog_cause (s : State) (v : List DeviceAccess) : (s.setDeviceLog v).cause = s.cause := rfl
@[simp] theorem State.setDeviceLog_epc (s : State) (v : List DeviceAccess) : (s.setDeviceLog v).epc = s.epc := rfl
@[simp] theorem State.setDeviceLog_badvaddr (s : State) (v : List DeviceAccess) : (s.setDeviceLog v).badvaddr = s.badvaddr := rfl
@[simp] theorem State.setDeviceLog_stage (s : State) (v : List DeviceAccess) : (s.setDeviceLog v).stage = s.stage := rfl
@[simp] theorem State.setDeviceLog_stall (s : State) (v : List DeviceAccess) : (s.setDeviceLog v).stall = s.stall := rfl
@[simp] theorem State.setDeviceLog_booted (s : State) (v : List DeviceAccess) : (s.setDeviceLog v).booted = s.booted := rfl
@[simp] theorem State.setDeviceLog_excPending (s : State) (v : List DeviceAccess) : (s.setDeviceLog v).excPending = s.excPending := rfl
@[simp] theorem State.setDeviceLog_cycles (s : State) (v : List DeviceAccess) : (s.setDeviceLog v).cycles = s.cycles := rfl
@[simp] theorem State.setDeviceLog_instret (s : State) (v : List DeviceAccess) : (s.setDeviceLog v).instret = s.instret := rfl
@[simp] theorem State.setDeviceLog_busmap (s : State) (v : List DeviceAccess) : (s.setDeviceLog v).busmap = s.busmap := rfl
@[simp] theorem State.setDeviceLog_mem (s : State) (v : List DeviceAccess) : (s.setDeviceLog v).mem = s.mem := rfl
@[simp] theorem State.setDeviceLog_romImage (s : State) (v : List DeviceAccess) : (s.setDeviceLog v).romImage = s.romImage := rfl
@[simp] theorem State.setDeviceLog_deviceLog (s : State) (v : List DeviceAccess) : (s.setDeviceLog v).deviceLog = v := rfl

@[simp] theorem State.logAccess_gpr (s : State) (a : DeviceAccess) : (s.logAccess a).gpr = s.gpr := rfl
@[simp] theorem State.logAccess_pc (s : State) (a : DeviceAccess) : (s.logAccess a).pc = s.pc := rfl
@[simp] theorem State.logAccess_hi (s : State) (a : DeviceAccess) : (s.logAccess a).hi = s.hi := rfl
@[simp] theorem State.logAccess_lo (s : State) (a : DeviceAccess) : (s.logAccess a).lo = s.lo := rfl
@[simp] theorem State.logAccess_fpr (s : State) (a : DeviceAccess) : (s.logAccess a).fpr = s.fpr := rfl
@[simp] theorem State.logAccess_status (s : State) (a : DeviceAccess) : (s.logAccess a).status = s.status := rfl
@[simp] theorem State.logAccess_cause (s : State) (a : DeviceAccess) : (s.logAccess a).cause = s.cause := rfl
@[simp] theorem State.logAccess_epc (s : State) (a : DeviceAccess) : (s.logAccess a).epc = s.epc := rfl
@[simp] theorem State.logAccess_badvaddr (s : State) (a : DeviceAccess) : (s.logAccess a).badvaddr = s.badvaddr := rfl
@[simp] theorem State.logAccess_stage (s : State) (a : DeviceAccess) : (s.logAccess a).stage = s.stage := rfl
@[simp] theorem State.logAccess_stall (s : State) (a : DeviceAccess) : (s.logAccess a).stall = s.stall := rfl
@[simp] theorem State.logAccess_booted (s : State) (a : DeviceAccess) : (s.logAccess a).booted = s.booted := rfl
@[simp] theorem State.logAccess_excPending (s : State) (a : DeviceAccess) : (s.logAccess a).excPending = s.excPending := rfl
@[simp] theorem State.logAccess_cycles (s : State) (a : DeviceAccess) : (s.logAccess a).cycles = s.cycles := rfl
@[simp] theorem State.logAccess_instret (s : State) (a : DeviceAccess) : (s.logAccess a).instret = s.instret := rfl
@[simp] theorem State.logAccess_busmap (s : State) (a : DeviceAccess) : (s.logAccess a).busmap = s.busmap := rfl
@[simp] theorem State.logAccess_mem (s : State) (a : DeviceAccess) : (s.logAccess a).mem = s.mem := rfl
@[simp] theorem State.logAccess_romImage (s : State) (a : DeviceAccess) : (s.logAccess a).romImage = s.romImage := rfl
@[simp] theorem State.logAccess_deviceLog (s : State) (a : DeviceAccess) : (s.logAccess a).deviceLog = a :: s.deviceLog := rfl

/-- Two states with equal fields are equal. -/
theorem State.ext_fields {s t : State}
    (h0 : s.gpr = t.gpr)
    (h1 : s.pc = t.pc)
    (h2 : s.hi = t.hi)
    (h3 : s.lo = t.lo)
    (h4 : s.fpr = t.fpr)
    (h5 : s.status = t.status)
    (h6 : s.cause = t.cause)
    (h7 : s.epc = t.epc)
    (h8 : s.badvaddr = t.badvaddr)
    (h9 : s.stage = t.stage)
    (h10 : s.stall = t.stall)
    (h11 : s.booted = t.booted)
    (h12 : s.excPending = t.excPending)
    (h13 : s.cycles = t.cycles)
    (h14 : s.instret = t.instret)
    (h15 : s.busmap = t.busmap)
    (h16 : s.mem = t.mem)
    (h17 : s.romImage = t.romImage)
    (h18 : s.deviceLog = t.deviceLog)
    : s = t := by
  cases s
  cases t
  simp_all

end Sys2Proof.Machine
end

