-- ==== Sys2Proof/Laws/Bus.lean ====
section
/-! SUPPORT. What a lookup answers, and all that a bus access can do. -/

namespace Sys2Proof.Machine

/-- When a registration covers an address (20_memory.md R51). -/
theorem covers_iff {r : Registration} {A : Word} :
    covers r A = true ↔
      A.toNat % 4 = 0 ∧ r.base.toNat ≤ A.toNat ∧ A.toNat < r.base.toNat + r.size := by
  simp only [covers, Bool.and_eq_true, decide_eq_true_eq]
  tauto

/-- The newest registration is asked first (R51). -/
theorem lookup_append (bm : List Registration) (r : Registration) (A : Word) :
    lookup (bm ++ [r]) A = if covers r A then some r.dev else lookup bm A := by
  induction bm with
  | nil =>
    simp only [List.nil_append, lookup]
  | cons q bm ih =>
    simp only [List.cons_append, lookup, ih]
    by_cases h : covers r A = true
    · simp only [h, if_true]
    · simp only [h, Bool.false_eq_true, if_false]

/-- Where nothing covers the address the lookup finds nothing. -/
theorem lookup_eq_none {bm : List Registration} {A : Word}
    (h : ∀ r ∈ bm, covers r A = false) : lookup bm A = none := by
  induction bm with
  | nil => rfl
  | cons q bm ih =>
    simp only [lookup, ih (fun r hr => h r (List.mem_cons_of_mem _ hr)), h q List.mem_cons_self]
    rfl

/-- The mask of R52 is every bit from bit 2 on. -/
theorem alignMask_getLsbD : ∀ i < 32, (0xFFFFFFFC#32).getLsbD i = decide (2 ≤ i) := by decide

/-- Masking to alignment is dropping the two low bits (R52). -/
theorem busAlign_eq_shift (a : Word) : busAlign a = (a >>> 2) <<< 2 := by
  apply BitVec.eq_of_getLsbD_eq
  intro i hi
  rw [busAlign, BitVec.getLsbD_and, show (0xFFFFFFFC : Word) = 0xFFFFFFFC#32 from rfl,
    alignMask_getLsbD i hi, BitVec.getLsbD_shiftLeft, BitVec.getLsbD_ushiftRight]
  by_cases h2 : 2 ≤ i
  · have : 2 + (i - 2) = i := by omega
    simp [h2, hi, this, Nat.not_lt.mpr h2]
  · simp [h2, Nat.lt_of_not_le h2]

/-- An aligned address as a number (R52). -/
theorem busAlign_toNat (a : Word) : (busAlign a).toNat = a.toNat - a.toNat % 4 := by
  rw [busAlign_eq_shift, BitVec.toNat_shiftLeft, BitVec.toNat_ushiftRight, Nat.shiftRight_eq_div_pow,
    Nat.shiftLeft_eq]
  have := a.isLt
  omega

/-- Aligning twice is aligning once. -/
theorem busAlign_busAlign (a : Word) : busAlign (busAlign a) = busAlign a := by
  unfold busAlign
  rw [BitVec.and_assoc, BitVec.and_self]

/-- All that a bus read can do (R53): nothing where unmapped, nothing to the state on the memory device, one
logged read on an external device. -/
theorem busRead32_cases (s : State) (a : Word) :
    (lookup s.busmap (busAlign a) = none ∧ busRead32 s a = (0, s)) ∨
    (lookup s.busmap (busAlign a) = some .memory ∧ busRead32 s a = (memRead s.mem (busAlign a), s)) ∨
    (∃ id, lookup s.busmap (busAlign a) = some (.external id) ∧
      busRead32 s a = (Config.externalRead id (busAlign a) s.deviceLog,
        s.logAccess (.read id (busAlign a)))) := by
  unfold busRead32
  cases h : lookup s.busmap (busAlign a) with
  | none => exact .inl ⟨rfl, rfl⟩
  | some d =>
    cases d with
    | memory => exact .inr (.inl ⟨rfl, rfl⟩)
    | external id => exact .inr (.inr ⟨id, rfl, rfl⟩)

/-- All that a bus write can do (R54): nothing where unmapped, a write of the memory device, or one logged write
on an external device. -/
theorem busWrite32_cases (s : State) (a v : Word) :
    (lookup s.busmap (busAlign a) = none ∧ busWrite32 s a v = s) ∨
    (lookup s.busmap (busAlign a) = some .memory ∧
      busWrite32 s a v = s.setMem (memWrite s.mem (busAlign a) v)) ∨
    (∃ id, lookup s.busmap (busAlign a) = some (.external id) ∧
      busWrite32 s a v = s.logAccess (.write id (busAlign a) v)) := by
  unfold busWrite32
  cases h : lookup s.busmap (busAlign a) with
  | none => exact .inl ⟨rfl, rfl⟩
  | some d =>
    cases d with
    | memory => exact .inr (.inl ⟨rfl, rfl⟩)
    | external id => exact .inr (.inr ⟨id, rfl, rfl⟩)

/-- A bus read changes nothing but the model's log of external accesses. -/
theorem busRead32_state (s : State) (a : Word) : ∃ l, (busRead32 s a).2 = s.setDeviceLog l := by
  rcases busRead32_cases s a with ⟨_, h⟩ | ⟨_, h⟩ | ⟨id, _, h⟩
  · exact ⟨s.deviceLog, by rw [h]; rfl⟩
  · exact ⟨s.deviceLog, by rw [h]; rfl⟩
  · exact ⟨.read id (busAlign a) :: s.deviceLog, by rw [h]; rfl⟩

/-- A bus write changes nothing but memory and the model's log of external accesses. -/
theorem busWrite32_state (s : State) (a v : Word) :
    ∃ m l, busWrite32 s a v = (s.setMem m).setDeviceLog l := by
  rcases busWrite32_cases s a v with ⟨_, h⟩ | ⟨_, h⟩ | ⟨id, _, h⟩
  · exact ⟨s.mem, s.deviceLog, by rw [h]; rfl⟩
  · exact ⟨memWrite s.mem (busAlign a) v, s.deviceLog, by rw [h]; rfl⟩
  · exact ⟨s.mem, .write id (busAlign a) v :: s.deviceLog, by rw [h]; rfl⟩

end Sys2Proof.Machine
end

