-- ==== Sys2Proof/Laws/PerInstr.lean ====
section
/-! SUPPORT. What is said of every instruction as syntax, one lemma per constructor of Instr. -/

namespace Sys2Proof.Laws

/-- The opcode map gives an instruction back from its own fields (30_encoding.md R86, R87). -/
def FieldsDecode.Statement (i : Instr) : Prop :=
  i.wellFormed = true →
    decodeFields i.opcode i.operands.1 i.operands.2.1 i.operands.2.2 = i

/-- The opcode of an instruction is ADDIU's exactly when the instruction is ADDIU (R86). -/
def AddiuOpcode.Statement (i : Instr) : Prop :=
  i.opcode = Config.addiuOpcode ↔ ∃ rs rt imm, i = .addiu rs rt imm

theorem FieldsDecode.addiu (rs rt : RegIdx) (imm : Imm16) :
    FieldsDecode.Statement (.addiu rs rt imm) := fun _ => rfl

theorem FieldsDecode.passOp00 (rs rt : RegIdx) (imm : Imm16) :
    FieldsDecode.Statement (.passOp00 rs rt imm) := by
  intro h
  have hz : ¬(rs = 0 ∧ rt = 0 ∧ imm = 0) := by
    rintro ⟨rfl, rfl, rfl⟩
    exact absurd h (by decide)
  exact if_neg hz

theorem FieldsDecode.passOp01 (rs rt : RegIdx) (imm : Imm16) :
    FieldsDecode.Statement (.passOp01 rs rt imm) := fun _ => rfl

theorem FieldsDecode.passOp02 (rs rt : RegIdx) (imm : Imm16) :
    FieldsDecode.Statement (.passOp02 rs rt imm) := fun _ => rfl

theorem FieldsDecode.passOp03 (rs rt : RegIdx) (imm : Imm16) :
    FieldsDecode.Statement (.passOp03 rs rt imm) := fun _ => rfl

theorem FieldsDecode.passOp04 (rs rt : RegIdx) (imm : Imm16) :
    FieldsDecode.Statement (.passOp04 rs rt imm) := fun _ => rfl

theorem FieldsDecode.passOp05 (rs rt : RegIdx) (imm : Imm16) :
    FieldsDecode.Statement (.passOp05 rs rt imm) := fun _ => rfl

theorem FieldsDecode.passOp06 (rs rt : RegIdx) (imm : Imm16) :
    FieldsDecode.Statement (.passOp06 rs rt imm) := fun _ => rfl

theorem FieldsDecode.passOp07 (rs rt : RegIdx) (imm : Imm16) :
    FieldsDecode.Statement (.passOp07 rs rt imm) := fun _ => rfl

theorem FieldsDecode.passOp08 (rs rt : RegIdx) (imm : Imm16) :
    FieldsDecode.Statement (.passOp08 rs rt imm) := fun _ => rfl

theorem FieldsDecode.passOp0A (rs rt : RegIdx) (imm : Imm16) :
    FieldsDecode.Statement (.passOp0A rs rt imm) := fun _ => rfl

theorem FieldsDecode.passOp0B (rs rt : RegIdx) (imm : Imm16) :
    FieldsDecode.Statement (.passOp0B rs rt imm) := fun _ => rfl

theorem FieldsDecode.passOp0C (rs rt : RegIdx) (imm : Imm16) :
    FieldsDecode.Statement (.passOp0C rs rt imm) := fun _ => rfl

theorem FieldsDecode.passOp0D (rs rt : RegIdx) (imm : Imm16) :
    FieldsDecode.Statement (.passOp0D rs rt imm) := fun _ => rfl

theorem FieldsDecode.passOp0E (rs rt : RegIdx) (imm : Imm16) :
    FieldsDecode.Statement (.passOp0E rs rt imm) := fun _ => rfl

theorem FieldsDecode.passOp0F (rs rt : RegIdx) (imm : Imm16) :
    FieldsDecode.Statement (.passOp0F rs rt imm) := fun _ => rfl

theorem FieldsDecode.passOp10 (rs rt : RegIdx) (imm : Imm16) :
    FieldsDecode.Statement (.passOp10 rs rt imm) := fun _ => rfl

theorem FieldsDecode.passOp11 (rs rt : RegIdx) (imm : Imm16) :
    FieldsDecode.Statement (.passOp11 rs rt imm) := fun _ => rfl

theorem FieldsDecode.passOp12 (rs rt : RegIdx) (imm : Imm16) :
    FieldsDecode.Statement (.passOp12 rs rt imm) := fun _ => rfl

theorem FieldsDecode.passOp13 (rs rt : RegIdx) (imm : Imm16) :
    FieldsDecode.Statement (.passOp13 rs rt imm) := fun _ => rfl

theorem FieldsDecode.passOp14 (rs rt : RegIdx) (imm : Imm16) :
    FieldsDecode.Statement (.passOp14 rs rt imm) := fun _ => rfl

theorem FieldsDecode.passOp15 (rs rt : RegIdx) (imm : Imm16) :
    FieldsDecode.Statement (.passOp15 rs rt imm) := fun _ => rfl

theorem FieldsDecode.passOp16 (rs rt : RegIdx) (imm : Imm16) :
    FieldsDecode.Statement (.passOp16 rs rt imm) := fun _ => rfl

theorem FieldsDecode.passOp17 (rs rt : RegIdx) (imm : Imm16) :
    FieldsDecode.Statement (.passOp17 rs rt imm) := fun _ => rfl

theorem FieldsDecode.passOp18 (rs rt : RegIdx) (imm : Imm16) :
    FieldsDecode.Statement (.passOp18 rs rt imm) := fun _ => rfl

theorem FieldsDecode.passOp19 (rs rt : RegIdx) (imm : Imm16) :
    FieldsDecode.Statement (.passOp19 rs rt imm) := fun _ => rfl

theorem FieldsDecode.passOp1A (rs rt : RegIdx) (imm : Imm16) :
    FieldsDecode.Statement (.passOp1A rs rt imm) := fun _ => rfl

theorem FieldsDecode.passOp1B (rs rt : RegIdx) (imm : Imm16) :
    FieldsDecode.Statement (.passOp1B rs rt imm) := fun _ => rfl

theorem FieldsDecode.passOp1C (rs rt : RegIdx) (imm : Imm16) :
    FieldsDecode.Statement (.passOp1C rs rt imm) := fun _ => rfl

theorem FieldsDecode.passOp1D (rs rt : RegIdx) (imm : Imm16) :
    FieldsDecode.Statement (.passOp1D rs rt imm) := fun _ => rfl

theorem FieldsDecode.passOp1E (rs rt : RegIdx) (imm : Imm16) :
    FieldsDecode.Statement (.passOp1E rs rt imm) := fun _ => rfl

theorem FieldsDecode.passOp1F (rs rt : RegIdx) (imm : Imm16) :
    FieldsDecode.Statement (.passOp1F rs rt imm) := fun _ => rfl

theorem FieldsDecode.passOp20 (rs rt : RegIdx) (imm : Imm16) :
    FieldsDecode.Statement (.passOp20 rs rt imm) := fun _ => rfl

theorem FieldsDecode.passOp21 (rs rt : RegIdx) (imm : Imm16) :
    FieldsDecode.Statement (.passOp21 rs rt imm) := fun _ => rfl

theorem FieldsDecode.passOp22 (rs rt : RegIdx) (imm : Imm16) :
    FieldsDecode.Statement (.passOp22 rs rt imm) := fun _ => rfl

theorem FieldsDecode.passOp23 (rs rt : RegIdx) (imm : Imm16) :
    FieldsDecode.Statement (.passOp23 rs rt imm) := fun _ => rfl

theorem FieldsDecode.passOp24 (rs rt : RegIdx) (imm : Imm16) :
    FieldsDecode.Statement (.passOp24 rs rt imm) := fun _ => rfl

theorem FieldsDecode.passOp25 (rs rt : RegIdx) (imm : Imm16) :
    FieldsDecode.Statement (.passOp25 rs rt imm) := fun _ => rfl

theorem FieldsDecode.passOp26 (rs rt : RegIdx) (imm : Imm16) :
    FieldsDecode.Statement (.passOp26 rs rt imm) := fun _ => rfl

theorem FieldsDecode.passOp27 (rs rt : RegIdx) (imm : Imm16) :
    FieldsDecode.Statement (.passOp27 rs rt imm) := fun _ => rfl

theorem FieldsDecode.passOp28 (rs rt : RegIdx) (imm : Imm16) :
    FieldsDecode.Statement (.passOp28 rs rt imm) := fun _ => rfl

theorem FieldsDecode.passOp29 (rs rt : RegIdx) (imm : Imm16) :
    FieldsDecode.Statement (.passOp29 rs rt imm) := fun _ => rfl

theorem FieldsDecode.passOp2A (rs rt : RegIdx) (imm : Imm16) :
    FieldsDecode.Statement (.passOp2A rs rt imm) := fun _ => rfl

theorem FieldsDecode.passOp2B (rs rt : RegIdx) (imm : Imm16) :
    FieldsDecode.Statement (.passOp2B rs rt imm) := fun _ => rfl

theorem FieldsDecode.passOp2C (rs rt : RegIdx) (imm : Imm16) :
    FieldsDecode.Statement (.passOp2C rs rt imm) := fun _ => rfl

theorem FieldsDecode.passOp2D (rs rt : RegIdx) (imm : Imm16) :
    FieldsDecode.Statement (.passOp2D rs rt imm) := fun _ => rfl

theorem FieldsDecode.passOp2E (rs rt : RegIdx) (imm : Imm16) :
    FieldsDecode.Statement (.passOp2E rs rt imm) := fun _ => rfl

theorem FieldsDecode.passOp2F (rs rt : RegIdx) (imm : Imm16) :
    FieldsDecode.Statement (.passOp2F rs rt imm) := fun _ => rfl

theorem FieldsDecode.passOp30 (rs rt : RegIdx) (imm : Imm16) :
    FieldsDecode.Statement (.passOp30 rs rt imm) := fun _ => rfl

theorem FieldsDecode.passOp31 (rs rt : RegIdx) (imm : Imm16) :
    FieldsDecode.Statement (.passOp31 rs rt imm) := fun _ => rfl

theorem FieldsDecode.passOp32 (rs rt : RegIdx) (imm : Imm16) :
    FieldsDecode.Statement (.passOp32 rs rt imm) := fun _ => rfl

theorem FieldsDecode.passOp33 (rs rt : RegIdx) (imm : Imm16) :
    FieldsDecode.Statement (.passOp33 rs rt imm) := fun _ => rfl

theorem FieldsDecode.passOp34 (rs rt : RegIdx) (imm : Imm16) :
    FieldsDecode.Statement (.passOp34 rs rt imm) := fun _ => rfl

theorem FieldsDecode.passOp35 (rs rt : RegIdx) (imm : Imm16) :
    FieldsDecode.Statement (.passOp35 rs rt imm) := fun _ => rfl

theorem FieldsDecode.passOp36 (rs rt : RegIdx) (imm : Imm16) :
    FieldsDecode.Statement (.passOp36 rs rt imm) := fun _ => rfl

theorem FieldsDecode.passOp37 (rs rt : RegIdx) (imm : Imm16) :
    FieldsDecode.Statement (.passOp37 rs rt imm) := fun _ => rfl

theorem FieldsDecode.passOp38 (rs rt : RegIdx) (imm : Imm16) :
    FieldsDecode.Statement (.passOp38 rs rt imm) := fun _ => rfl

theorem FieldsDecode.passOp39 (rs rt : RegIdx) (imm : Imm16) :
    FieldsDecode.Statement (.passOp39 rs rt imm) := fun _ => rfl

theorem FieldsDecode.passOp3A (rs rt : RegIdx) (imm : Imm16) :
    FieldsDecode.Statement (.passOp3A rs rt imm) := fun _ => rfl

theorem FieldsDecode.passOp3B (rs rt : RegIdx) (imm : Imm16) :
    FieldsDecode.Statement (.passOp3B rs rt imm) := fun _ => rfl

theorem FieldsDecode.passOp3C (rs rt : RegIdx) (imm : Imm16) :
    FieldsDecode.Statement (.passOp3C rs rt imm) := fun _ => rfl

theorem FieldsDecode.passOp3D (rs rt : RegIdx) (imm : Imm16) :
    FieldsDecode.Statement (.passOp3D rs rt imm) := fun _ => rfl

theorem FieldsDecode.passOp3E (rs rt : RegIdx) (imm : Imm16) :
    FieldsDecode.Statement (.passOp3E rs rt imm) := fun _ => rfl

theorem FieldsDecode.passOp3F (rs rt : RegIdx) (imm : Imm16) :
    FieldsDecode.Statement (.passOp3F rs rt imm) := fun _ => rfl

theorem FieldsDecode.nop : FieldsDecode.Statement .nop := fun _ => rfl

theorem AddiuOpcode.addiu (rs rt : RegIdx) (imm : Imm16) :
    AddiuOpcode.Statement (.addiu rs rt imm) := ⟨fun _ => ⟨rs, rt, imm, rfl⟩, fun _ => rfl⟩

theorem not_addiu_of_opcode {i : Instr} {op : Opcode} (hop : i.opcode = op)
    (hne : op ≠ Config.addiuOpcode) (hi : ∀ rs rt imm, i ≠ .addiu rs rt imm) :
    AddiuOpcode.Statement i :=
  ⟨fun h => absurd (hop.symm.trans h) hne, fun ⟨rs, rt, imm, h⟩ => absurd h (hi rs rt imm)⟩

theorem AddiuOpcode.passOp00 (rs rt : RegIdx) (imm : Imm16) :
    AddiuOpcode.Statement (.passOp00 rs rt imm) :=
  not_addiu_of_opcode (op := 0) rfl (by decide) (fun _ _ _ => nofun)

theorem AddiuOpcode.passOp01 (rs rt : RegIdx) (imm : Imm16) :
    AddiuOpcode.Statement (.passOp01 rs rt imm) :=
  not_addiu_of_opcode (op := 1) rfl (by decide) (fun _ _ _ => nofun)

theorem AddiuOpcode.passOp02 (rs rt : RegIdx) (imm : Imm16) :
    AddiuOpcode.Statement (.passOp02 rs rt imm) :=
  not_addiu_of_opcode (op := 2) rfl (by decide) (fun _ _ _ => nofun)

theorem AddiuOpcode.passOp03 (rs rt : RegIdx) (imm : Imm16) :
    AddiuOpcode.Statement (.passOp03 rs rt imm) :=
  not_addiu_of_opcode (op := 3) rfl (by decide) (fun _ _ _ => nofun)

theorem AddiuOpcode.passOp04 (rs rt : RegIdx) (imm : Imm16) :
    AddiuOpcode.Statement (.passOp04 rs rt imm) :=
  not_addiu_of_opcode (op := 4) rfl (by decide) (fun _ _ _ => nofun)

theorem AddiuOpcode.passOp05 (rs rt : RegIdx) (imm : Imm16) :
    AddiuOpcode.Statement (.passOp05 rs rt imm) :=
  not_addiu_of_opcode (op := 5) rfl (by decide) (fun _ _ _ => nofun)

theorem AddiuOpcode.passOp06 (rs rt : RegIdx) (imm : Imm16) :
    AddiuOpcode.Statement (.passOp06 rs rt imm) :=
  not_addiu_of_opcode (op := 6) rfl (by decide) (fun _ _ _ => nofun)

theorem AddiuOpcode.passOp07 (rs rt : RegIdx) (imm : Imm16) :
    AddiuOpcode.Statement (.passOp07 rs rt imm) :=
  not_addiu_of_opcode (op := 7) rfl (by decide) (fun _ _ _ => nofun)

theorem AddiuOpcode.passOp08 (rs rt : RegIdx) (imm : Imm16) :
    AddiuOpcode.Statement (.passOp08 rs rt imm) :=
  not_addiu_of_opcode (op := 8) rfl (by decide) (fun _ _ _ => nofun)

theorem AddiuOpcode.passOp0A (rs rt : RegIdx) (imm : Imm16) :
    AddiuOpcode.Statement (.passOp0A rs rt imm) :=
  not_addiu_of_opcode (op := 10) rfl (by decide) (fun _ _ _ => nofun)

theorem AddiuOpcode.passOp0B (rs rt : RegIdx) (imm : Imm16) :
    AddiuOpcode.Statement (.passOp0B rs rt imm) :=
  not_addiu_of_opcode (op := 11) rfl (by decide) (fun _ _ _ => nofun)

theorem AddiuOpcode.passOp0C (rs rt : RegIdx) (imm : Imm16) :
    AddiuOpcode.Statement (.passOp0C rs rt imm) :=
  not_addiu_of_opcode (op := 12) rfl (by decide) (fun _ _ _ => nofun)

theorem AddiuOpcode.passOp0D (rs rt : RegIdx) (imm : Imm16) :
    AddiuOpcode.Statement (.passOp0D rs rt imm) :=
  not_addiu_of_opcode (op := 13) rfl (by decide) (fun _ _ _ => nofun)

theorem AddiuOpcode.passOp0E (rs rt : RegIdx) (imm : Imm16) :
    AddiuOpcode.Statement (.passOp0E rs rt imm) :=
  not_addiu_of_opcode (op := 14) rfl (by decide) (fun _ _ _ => nofun)

theorem AddiuOpcode.passOp0F (rs rt : RegIdx) (imm : Imm16) :
    AddiuOpcode.Statement (.passOp0F rs rt imm) :=
  not_addiu_of_opcode (op := 15) rfl (by decide) (fun _ _ _ => nofun)

theorem AddiuOpcode.passOp10 (rs rt : RegIdx) (imm : Imm16) :
    AddiuOpcode.Statement (.passOp10 rs rt imm) :=
  not_addiu_of_opcode (op := 16) rfl (by decide) (fun _ _ _ => nofun)

theorem AddiuOpcode.passOp11 (rs rt : RegIdx) (imm : Imm16) :
    AddiuOpcode.Statement (.passOp11 rs rt imm) :=
  not_addiu_of_opcode (op := 17) rfl (by decide) (fun _ _ _ => nofun)

theorem AddiuOpcode.passOp12 (rs rt : RegIdx) (imm : Imm16) :
    AddiuOpcode.Statement (.passOp12 rs rt imm) :=
  not_addiu_of_opcode (op := 18) rfl (by decide) (fun _ _ _ => nofun)

theorem AddiuOpcode.passOp13 (rs rt : RegIdx) (imm : Imm16) :
    AddiuOpcode.Statement (.passOp13 rs rt imm) :=
  not_addiu_of_opcode (op := 19) rfl (by decide) (fun _ _ _ => nofun)

theorem AddiuOpcode.passOp14 (rs rt : RegIdx) (imm : Imm16) :
    AddiuOpcode.Statement (.passOp14 rs rt imm) :=
  not_addiu_of_opcode (op := 20) rfl (by decide) (fun _ _ _ => nofun)

theorem AddiuOpcode.passOp15 (rs rt : RegIdx) (imm : Imm16) :
    AddiuOpcode.Statement (.passOp15 rs rt imm) :=
  not_addiu_of_opcode (op := 21) rfl (by decide) (fun _ _ _ => nofun)

theorem AddiuOpcode.passOp16 (rs rt : RegIdx) (imm : Imm16) :
    AddiuOpcode.Statement (.passOp16 rs rt imm) :=
  not_addiu_of_opcode (op := 22) rfl (by decide) (fun _ _ _ => nofun)

theorem AddiuOpcode.passOp17 (rs rt : RegIdx) (imm : Imm16) :
    AddiuOpcode.Statement (.passOp17 rs rt imm) :=
  not_addiu_of_opcode (op := 23) rfl (by decide) (fun _ _ _ => nofun)

theorem AddiuOpcode.passOp18 (rs rt : RegIdx) (imm : Imm16) :
    AddiuOpcode.Statement (.passOp18 rs rt imm) :=
  not_addiu_of_opcode (op := 24) rfl (by decide) (fun _ _ _ => nofun)

theorem AddiuOpcode.passOp19 (rs rt : RegIdx) (imm : Imm16) :
    AddiuOpcode.Statement (.passOp19 rs rt imm) :=
  not_addiu_of_opcode (op := 25) rfl (by decide) (fun _ _ _ => nofun)

theorem AddiuOpcode.passOp1A (rs rt : RegIdx) (imm : Imm16) :
    AddiuOpcode.Statement (.passOp1A rs rt imm) :=
  not_addiu_of_opcode (op := 26) rfl (by decide) (fun _ _ _ => nofun)

theorem AddiuOpcode.passOp1B (rs rt : RegIdx) (imm : Imm16) :
    AddiuOpcode.Statement (.passOp1B rs rt imm) :=
  not_addiu_of_opcode (op := 27) rfl (by decide) (fun _ _ _ => nofun)

theorem AddiuOpcode.passOp1C (rs rt : RegIdx) (imm : Imm16) :
    AddiuOpcode.Statement (.passOp1C rs rt imm) :=
  not_addiu_of_opcode (op := 28) rfl (by decide) (fun _ _ _ => nofun)

theorem AddiuOpcode.passOp1D (rs rt : RegIdx) (imm : Imm16) :
    AddiuOpcode.Statement (.passOp1D rs rt imm) :=
  not_addiu_of_opcode (op := 29) rfl (by decide) (fun _ _ _ => nofun)

theorem AddiuOpcode.passOp1E (rs rt : RegIdx) (imm : Imm16) :
    AddiuOpcode.Statement (.passOp1E rs rt imm) :=
  not_addiu_of_opcode (op := 30) rfl (by decide) (fun _ _ _ => nofun)

theorem AddiuOpcode.passOp1F (rs rt : RegIdx) (imm : Imm16) :
    AddiuOpcode.Statement (.passOp1F rs rt imm) :=
  not_addiu_of_opcode (op := 31) rfl (by decide) (fun _ _ _ => nofun)

theorem AddiuOpcode.passOp20 (rs rt : RegIdx) (imm : Imm16) :
    AddiuOpcode.Statement (.passOp20 rs rt imm) :=
  not_addiu_of_opcode (op := 32) rfl (by decide) (fun _ _ _ => nofun)

theorem AddiuOpcode.passOp21 (rs rt : RegIdx) (imm : Imm16) :
    AddiuOpcode.Statement (.passOp21 rs rt imm) :=
  not_addiu_of_opcode (op := 33) rfl (by decide) (fun _ _ _ => nofun)

theorem AddiuOpcode.passOp22 (rs rt : RegIdx) (imm : Imm16) :
    AddiuOpcode.Statement (.passOp22 rs rt imm) :=
  not_addiu_of_opcode (op := 34) rfl (by decide) (fun _ _ _ => nofun)

theorem AddiuOpcode.passOp23 (rs rt : RegIdx) (imm : Imm16) :
    AddiuOpcode.Statement (.passOp23 rs rt imm) :=
  not_addiu_of_opcode (op := 35) rfl (by decide) (fun _ _ _ => nofun)

theorem AddiuOpcode.passOp24 (rs rt : RegIdx) (imm : Imm16) :
    AddiuOpcode.Statement (.passOp24 rs rt imm) :=
  not_addiu_of_opcode (op := 36) rfl (by decide) (fun _ _ _ => nofun)

theorem AddiuOpcode.passOp25 (rs rt : RegIdx) (imm : Imm16) :
    AddiuOpcode.Statement (.passOp25 rs rt imm) :=
  not_addiu_of_opcode (op := 37) rfl (by decide) (fun _ _ _ => nofun)

theorem AddiuOpcode.passOp26 (rs rt : RegIdx) (imm : Imm16) :
    AddiuOpcode.Statement (.passOp26 rs rt imm) :=
  not_addiu_of_opcode (op := 38) rfl (by decide) (fun _ _ _ => nofun)

theorem AddiuOpcode.passOp27 (rs rt : RegIdx) (imm : Imm16) :
    AddiuOpcode.Statement (.passOp27 rs rt imm) :=
  not_addiu_of_opcode (op := 39) rfl (by decide) (fun _ _ _ => nofun)

theorem AddiuOpcode.passOp28 (rs rt : RegIdx) (imm : Imm16) :
    AddiuOpcode.Statement (.passOp28 rs rt imm) :=
  not_addiu_of_opcode (op := 40) rfl (by decide) (fun _ _ _ => nofun)

theorem AddiuOpcode.passOp29 (rs rt : RegIdx) (imm : Imm16) :
    AddiuOpcode.Statement (.passOp29 rs rt imm) :=
  not_addiu_of_opcode (op := 41) rfl (by decide) (fun _ _ _ => nofun)

theorem AddiuOpcode.passOp2A (rs rt : RegIdx) (imm : Imm16) :
    AddiuOpcode.Statement (.passOp2A rs rt imm) :=
  not_addiu_of_opcode (op := 42) rfl (by decide) (fun _ _ _ => nofun)

theorem AddiuOpcode.passOp2B (rs rt : RegIdx) (imm : Imm16) :
    AddiuOpcode.Statement (.passOp2B rs rt imm) :=
  not_addiu_of_opcode (op := 43) rfl (by decide) (fun _ _ _ => nofun)

theorem AddiuOpcode.passOp2C (rs rt : RegIdx) (imm : Imm16) :
    AddiuOpcode.Statement (.passOp2C rs rt imm) :=
  not_addiu_of_opcode (op := 44) rfl (by decide) (fun _ _ _ => nofun)

theorem AddiuOpcode.passOp2D (rs rt : RegIdx) (imm : Imm16) :
    AddiuOpcode.Statement (.passOp2D rs rt imm) :=
  not_addiu_of_opcode (op := 45) rfl (by decide) (fun _ _ _ => nofun)

theorem AddiuOpcode.passOp2E (rs rt : RegIdx) (imm : Imm16) :
    AddiuOpcode.Statement (.passOp2E rs rt imm) :=
  not_addiu_of_opcode (op := 46) rfl (by decide) (fun _ _ _ => nofun)

theorem AddiuOpcode.passOp2F (rs rt : RegIdx) (imm : Imm16) :
    AddiuOpcode.Statement (.passOp2F rs rt imm) :=
  not_addiu_of_opcode (op := 47) rfl (by decide) (fun _ _ _ => nofun)

theorem AddiuOpcode.passOp30 (rs rt : RegIdx) (imm : Imm16) :
    AddiuOpcode.Statement (.passOp30 rs rt imm) :=
  not_addiu_of_opcode (op := 48) rfl (by decide) (fun _ _ _ => nofun)

theorem AddiuOpcode.passOp31 (rs rt : RegIdx) (imm : Imm16) :
    AddiuOpcode.Statement (.passOp31 rs rt imm) :=
  not_addiu_of_opcode (op := 49) rfl (by decide) (fun _ _ _ => nofun)

theorem AddiuOpcode.passOp32 (rs rt : RegIdx) (imm : Imm16) :
    AddiuOpcode.Statement (.passOp32 rs rt imm) :=
  not_addiu_of_opcode (op := 50) rfl (by decide) (fun _ _ _ => nofun)

theorem AddiuOpcode.passOp33 (rs rt : RegIdx) (imm : Imm16) :
    AddiuOpcode.Statement (.passOp33 rs rt imm) :=
  not_addiu_of_opcode (op := 51) rfl (by decide) (fun _ _ _ => nofun)

theorem AddiuOpcode.passOp34 (rs rt : RegIdx) (imm : Imm16) :
    AddiuOpcode.Statement (.passOp34 rs rt imm) :=
  not_addiu_of_opcode (op := 52) rfl (by decide) (fun _ _ _ => nofun)

theorem AddiuOpcode.passOp35 (rs rt : RegIdx) (imm : Imm16) :
    AddiuOpcode.Statement (.passOp35 rs rt imm) :=
  not_addiu_of_opcode (op := 53) rfl (by decide) (fun _ _ _ => nofun)

theorem AddiuOpcode.passOp36 (rs rt : RegIdx) (imm : Imm16) :
    AddiuOpcode.Statement (.passOp36 rs rt imm) :=
  not_addiu_of_opcode (op := 54) rfl (by decide) (fun _ _ _ => nofun)

theorem AddiuOpcode.passOp37 (rs rt : RegIdx) (imm : Imm16) :
    AddiuOpcode.Statement (.passOp37 rs rt imm) :=
  not_addiu_of_opcode (op := 55) rfl (by decide) (fun _ _ _ => nofun)

theorem AddiuOpcode.passOp38 (rs rt : RegIdx) (imm : Imm16) :
    AddiuOpcode.Statement (.passOp38 rs rt imm) :=
  not_addiu_of_opcode (op := 56) rfl (by decide) (fun _ _ _ => nofun)

theorem AddiuOpcode.passOp39 (rs rt : RegIdx) (imm : Imm16) :
    AddiuOpcode.Statement (.passOp39 rs rt imm) :=
  not_addiu_of_opcode (op := 57) rfl (by decide) (fun _ _ _ => nofun)

theorem AddiuOpcode.passOp3A (rs rt : RegIdx) (imm : Imm16) :
    AddiuOpcode.Statement (.passOp3A rs rt imm) :=
  not_addiu_of_opcode (op := 58) rfl (by decide) (fun _ _ _ => nofun)

theorem AddiuOpcode.passOp3B (rs rt : RegIdx) (imm : Imm16) :
    AddiuOpcode.Statement (.passOp3B rs rt imm) :=
  not_addiu_of_opcode (op := 59) rfl (by decide) (fun _ _ _ => nofun)

theorem AddiuOpcode.passOp3C (rs rt : RegIdx) (imm : Imm16) :
    AddiuOpcode.Statement (.passOp3C rs rt imm) :=
  not_addiu_of_opcode (op := 60) rfl (by decide) (fun _ _ _ => nofun)

theorem AddiuOpcode.passOp3D (rs rt : RegIdx) (imm : Imm16) :
    AddiuOpcode.Statement (.passOp3D rs rt imm) :=
  not_addiu_of_opcode (op := 61) rfl (by decide) (fun _ _ _ => nofun)

theorem AddiuOpcode.passOp3E (rs rt : RegIdx) (imm : Imm16) :
    AddiuOpcode.Statement (.passOp3E rs rt imm) :=
  not_addiu_of_opcode (op := 62) rfl (by decide) (fun _ _ _ => nofun)

theorem AddiuOpcode.passOp3F (rs rt : RegIdx) (imm : Imm16) :
    AddiuOpcode.Statement (.passOp3F rs rt imm) :=
  not_addiu_of_opcode (op := 63) rfl (by decide) (fun _ _ _ => nofun)

theorem AddiuOpcode.nop : AddiuOpcode.Statement .nop :=
  not_addiu_of_opcode (op := 0) rfl (by decide) (fun _ _ _ => nofun)

end Sys2Proof.Laws
end

