-- ==== Sys2Proof/Laws/Decode.lean ====
section
/-! SUPPORT. The bit fields of words and records. -/

namespace Sys2Proof.Laws

/-- The opcode field of four fields side by side. -/
theorem extract_opcode (op : Opcode) (rs rt : RegIdx) (imm : Imm16) :
    (op ++ rs ++ rt ++ imm : Word).extractLsb' 26 6 = op := by
  ext i hi
  simp only [BitVec.getElem_extractLsb', BitVec.getLsbD_append]
  grind

theorem extract_rs (op : Opcode) (rs rt : RegIdx) (imm : Imm16) :
    (op ++ rs ++ rt ++ imm : Word).extractLsb' 21 5 = rs := by
  ext i hi
  simp only [BitVec.getElem_extractLsb', BitVec.getLsbD_append]
  grind

theorem extract_rt (op : Opcode) (rs rt : RegIdx) (imm : Imm16) :
    (op ++ rs ++ rt ++ imm : Word).extractLsb' 16 5 = rt := by
  ext i hi
  simp only [BitVec.getElem_extractLsb', BitVec.getLsbD_append]
  grind

theorem extract_imm (op : Opcode) (rs rt : RegIdx) (imm : Imm16) :
    (op ++ rs ++ rt ++ imm : Word).extractLsb' 0 16 = imm := by
  ext i hi
  simp only [BitVec.getElem_extractLsb', BitVec.getLsbD_append]
  grind

theorem extract_rd (op : Opcode) (rs rt : RegIdx) (imm : Imm16) :
    (op ++ rs ++ rt ++ imm : Word).extractLsb' 11 5 = imm.extractLsb' 11 5 := by
  ext i hi
  simp only [BitVec.getElem_extractLsb', BitVec.getLsbD_append]
  grind

theorem extract_target (op : Opcode) (rs rt : RegIdx) (imm : Imm16) :
    (op ++ rs ++ rt ++ imm : Word).extractLsb' 0 26 = rs ++ rt ++ imm := by
  ext i hi
  simp only [BitVec.getElem_extractLsb', BitVec.getLsbD_append]
  grind

/-- The four stored fields make up the word (30_encoding.md R81). -/
theorem word_of_fields (w : Word) :
    w.extractLsb' 26 6 ++ w.extractLsb' 21 5 ++ w.extractLsb' 16 5 ++ w.extractLsb' 0 16 = w := by
  ext i hi
  simp only [BitVec.getElem_append, BitVec.getElem_extractLsb']
  grind

/-- `decode` of R81 on the word of four fields is the record of those fields. -/
theorem decodeRecord_append (op : Opcode) (rs rt : RegIdx) (imm : Imm16) :
    decodeRecord (op ++ rs ++ rt ++ imm) = recordOf op rs rt imm := by
  simp only [decodeRecord, recordOf, extract_opcode, extract_rs, extract_rt, extract_imm, extract_rd,
    extract_target]

/-- The record of an instruction is the record of its word. -/
theorem decodeRecord_encode (i : Instr) : decodeRecord (encode i) = i.record :=
  decodeRecord_append _ _ _ _

/-- The record of a word, from its four fields. -/
theorem decodeRecord_eq_recordOf (w : Word) :
    decodeRecord w = recordOf (w.extractLsb' 26 6) (w.extractLsb' 21 5) (w.extractLsb' 16 5)
      (w.extractLsb' 0 16) := by
  conv_lhs => rw [← word_of_fields w]
  exact decodeRecord_append _ _ _ _

/-- The opcode map keeps the opcode. -/
theorem decodeFields_opcode (op : Opcode) (rs rt : RegIdx) (imm : Imm16) :
    (decodeFields op rs rt imm).opcode = op := by
  have key : ∀ n : Fin 64, n ≠ 0 → (decodeFields (BitVec.ofFin n) rs rt imm).opcode = BitVec.ofFin n := by
    intro n hn
    fin_cases n
    · exact absurd rfl hn
    all_goals rfl
  by_cases h : op.toFin = 0
  · have h0 : op = 0 := BitVec.eq_of_toFin_eq h
    subst h0
    change Instr.opcode (if _ then Instr.nop else Instr.passOp00 rs rt imm) = 0
    split <;> rfl
  · exact key op.toFin h

/-- The opcode map keeps the operands. -/
theorem decodeFields_operands (op : Opcode) (rs rt : RegIdx) (imm : Imm16) :
    (decodeFields op rs rt imm).operands = (rs, rt, imm) := by
  unfold decodeFields
  split
  case h_1 =>
    split
    case isTrue h => obtain ⟨rfl, rfl, rfl⟩ := h; rfl
    case isFalse => rfl
  all_goals rfl

/-- Every record made from fields is well-formed (30_encoding.md R82). -/
theorem recordOf_wellFormed (op : Opcode) (rs rt : RegIdx) (imm : Imm16) :
    (recordOf op rs rt imm).wellFormed = true := by
  simp [recordOf, InstrRecord.wellFormed]

/-- A PASS_OP00 term that the opcode map answers is not the word of NOP. -/
theorem decodeFields_wellFormed (op : Opcode) (rs rt : RegIdx) (imm : Imm16) :
    (decodeFields op rs rt imm).wellFormed = true := by
  unfold decodeFields
  split
  case h_1 =>
    split
    case isTrue => rfl
    case isFalse h =>
      by_contra hc
      simp only [Instr.wellFormed, Bool.not_eq_true', Bool.not_eq_false, Bool.and_eq_true,
        beq_iff_eq] at hc
      exact h ⟨hc.1.1, hc.1.2, hc.2⟩
  all_goals rfl

end Sys2Proof.Laws
end

