-- ==== Sys2Proof/Laws/Pipeline.lean ====
section
/-! SUPPORT. Reading and writing a register, each step of the advance, and all that an advance can do. -/

namespace Sys2Proof.Machine

/-- A register read after a register write. -/
@[simp] theorem readGpr_writeGpr (s : State) (i k : RegIdx) (v : Word) :
    readGpr (writeGpr s i v) k = if i = k then v else readGpr s k := by
  simp only [readGpr, writeGpr, State.setGpr_gpr, Vector.getElem_set]
  by_cases h : i = k
  · simp [h]
  · have hn : i.toNat ≠ k.toNat := fun hc => h (BitVec.eq_of_toNat_eq hc)
    simp [h, hn]

@[simp] theorem readGpr_setPc (s : State) (k : RegIdx) (v : Word) :
    readGpr (s.setPc v) k = readGpr s k := rfl

@[simp] theorem readGpr_setStage (s : State) (k : RegIdx) (v : Vector Slot 5) :
    readGpr (s.setStage v) k = readGpr s k := rfl

/-- 4 added with the wrap of 32 bits (00_scope.md R14). -/
theorem add_four_eq_mask32 (a : Word) : a + 4 = mask32 (a.toNat + 4) := by
  apply BitVec.eq_of_toNat_eq
  simp only [mask32, BitVec.toNat_add, BitVec.toNat_ofInt]
  simp
  omega

/-- `pc - 4` with the wrap of 32 bits (40_controller.md R103). -/
theorem sub_four_eq_mask32 (a : Word) : a - 4 = mask32 (a.toNat - 4) := by
  apply BitVec.eq_of_toNat_eq
  simp only [mask32, BitVec.toNat_sub, BitVec.toNat_ofInt]
  have := a.isLt
  simp
  omega

/-- The sum of ADDIU as a number (42_instructions.md R140, R146). -/
theorem addiuSum_eq_mask32 (s : State) (r : InstrRecord) :
    addiuSum s r = mask32 ((readGpr s r.rs).toNat + r.imm.toNat) := by
  apply BitVec.eq_of_toNat_eq
  simp only [addiuSum, immval, immvalWith, Config.immSigned, zext32, mask32, BitVec.toNat_add,
    BitVec.toNat_ofInt, Bool.false_eq_true, if_false, BitVec.toNat_setWidth]
  have := r.imm.isLt
  omega

/-- Retiring touches only the general registers (41_pipeline.md R123). -/
theorem retire_eq_setGpr (s : State) : ∃ g, retire s = s.setGpr g := by
  unfold retire writebackWith
  split
  · exact ⟨s.gpr, rfl⟩
  · split
    · exact ⟨_, rfl⟩
    · exact ⟨s.gpr, rfl⟩

/-- Which register retiring writes (R123). -/
theorem retired_retire (s : State) : Retired s.stage[4] s (retire s) := by
  unfold retire writebackWith
  constructor
  · intro r hr hne
    rw [hr]
    simp only [ne_eq]
    rw [if_pos (Or.inl hne), readGpr_writeGpr, if_pos rfl]
  · intro k hk
    split
    · rfl
    · rename_i r hr
      split
      · rename_i hc
        rw [readGpr_writeGpr, if_neg]
        intro heq
        have h0 := hk r hr heq
        rcases hc with hc | hc
        · exact hc (heq.trans h0)
        · exact absurd hc (by decide)
      · rfl

/-- What execute does (R128, R129): it gives an ADDIU record in slot 1 its sum, and else nothing. -/
theorem execute_cases (s : State) :
    (∃ e, s.stage[1].instr = some e ∧ e.opcode = 9 ∧
      execute s = s.setStage (s.stage.set 1 { instr := some e, value := addiuSum s e })) ∨
    ((∀ e, s.stage[1].instr = some e → e.opcode ≠ 9) ∧ execute s = s) := by
  unfold execute
  cases h : s.stage[1].instr with
  | none => exact .inr ⟨nofun, rfl⟩
  | some e =>
    by_cases hop : e.opcode = 9
    · exact .inl ⟨e, rfl, hop, if_pos hop⟩
    · refine .inr ⟨?_, if_neg hop⟩
      rintro e' ⟨⟩
      exact hop

/-- A stalled advance (R121). -/
theorem advance_of_stall {s : State} (h : s.stall = true) (r : InstrRecord) :
    advance r s = (s.setStall false, none) := by
  unfold advance
  rw [if_pos h]
  rfl

/-- A stalled record changes nothing but the stall flag. -/
theorem issue_of_stall {s : State} (h : s.stall = true) (r : InstrRecord) :
    issue r s = s.setStall false := by
  unfold issue
  rw [advance_of_stall h]
  rfl

/-- The state of a non-stalled advance, whose `pc` is the one it returns (R130). -/
theorem advance_of_not_stall {s : State} (h : s.stall = false) (r : InstrRecord) :
    advance r s = (execute (advancePc (shiftIn r (retire s))),
      some (execute (advancePc (shiftIn r (retire s)))).pc) := by
  unfold advance
  simp [h]

/-- The `pc` the advance returns is the one it wrote (40_controller.md R106). -/
theorem issue_of_not_stall {s : State} (h : s.stall = false) (r : InstrRecord) :
    issue r s = execute (advancePc (shiftIn r (retire s))) := by
  unfold issue
  rw [advance_of_not_stall h]
  rfl

/-- All that a non-stalled advance does (R120). -/
theorem issue_enters {s : State} (h : s.stall = false) (r : InstrRecord) : Enters r s (issue r s) := by
  rw [issue_of_not_stall h]
  obtain ⟨g, hg⟩ := retire_eq_setGpr s
  have hr := retired_retire s
  rw [hg] at hr ⊢
  have hex := execute_cases (advancePc (shiftIn r (s.setGpr g)))
  have hst : (advancePc (shiftIn r (s.setGpr g))).stage =
      #v[{ instr := some r, value := 0 }, s.stage[0], s.stage[1], s.stage[2], s.stage[3]] := rfl
  have h1 : (advancePc (shiftIn r (s.setGpr g))).stage[1] = s.stage[0] := rfl
  rw [h1] at hex
  rcases hex with ⟨e, he, hop, hx⟩ | ⟨hno, hx⟩
  · rw [hx]
    refine ⟨rfl, ?_, ?_, rfl, rfl, rfl, ⟨hr.written, hr.kept⟩, add_four_eq_mask32 _, rfl,
      ⟨⟨rfl, rfl, fun _ => rfl, rfl, rfl, rfl, rfl, rfl⟩, ⟨rfl, fun _ => rfl, rfl, rfl, rfl⟩, rfl, rfl, rfl⟩⟩
    · intro e' he' _
      rw [he] at he'
      cases he'
      rw [addiuSum_eq_mask32]
      rfl
    · intro hc
      exact absurd hop (hc e he)
  · rw [hx]
    refine ⟨rfl, ?_, fun _ => rfl, rfl, rfl, rfl, ⟨hr.written, hr.kept⟩, add_four_eq_mask32 _, rfl,
      ⟨⟨rfl, rfl, fun _ => rfl, rfl, rfl, rfl, rfl, rfl⟩, ⟨rfl, fun _ => rfl, rfl, rfl, rfl⟩, rfl, rfl, rfl⟩⟩
    intro e he hop
    exact absurd hop (hno e he)

/-- Every meaning is the entry of the instruction's record. -/
theorem exec_eq_issue (i : Instr) (s : State) : exec i s = .next (issue i.record s) := by
  cases i <;> rfl

/-- All that an instruction can do in its own step: it enters, or its stalled step clears the flag. -/
theorem exec_cases {i : Instr} {s t : State} (h : exec i s = .next t) :
    (s.stall = false ∧ Enters i.record s t) ∨ (s.stall = true ∧ t = s.setStall false) := by
  rw [exec_eq_issue] at h
  cases h
  cases hs : s.stall with
  | false => exact .inl ⟨rfl, issue_enters hs _⟩
  | true => exact .inr ⟨rfl, issue_of_stall hs _⟩

end Sys2Proof.Machine
end

