-- ==== Sys2Proof/Laws/Step.lean ====
section
/-! SUPPORT. All that a step, a run and a host operation can do. -/

namespace Sys2Proof.Machine

/-- What the controller hands to the pipeline (40_controller.md R102, R103): the synthesized no-op after the
boot transition, or a decoded word after one bus read. -/
theorem nextInstr_cases (s : State) :
    (s.booted = false ∧ nextInstr s = (.nop, bootTransition s)) ∨
    (s.booted = true ∧
      nextInstr s = (decodeWord (busRead32 s (fetchAddr s)).1, (busRead32 s (fetchAddr s)).2)) := by
  unfold nextInstr
  cases h : s.booted with
  | false => exact .inl ⟨rfl, rfl⟩
  | true => exact .inr ⟨rfl, rfl⟩

/-- A step is the entry of one record (R100). -/
theorem step_eq_issue (s : State) :
    step s = .next (issue (nextInstr (tick s)).1.record (nextInstr (tick s)).2) :=
  exec_eq_issue _ _

/-- A bus read does not see the counters. -/
theorem busRead32_tick (s : State) (a : Word) :
    busRead32 (tick s) a = ((busRead32 s a).1, tick (busRead32 s a).2) := by
  unfold busRead32
  rw [show (tick s).busmap = s.busmap from rfl]
  cases lookup s.busmap (busAlign a) with
  | none => rfl
  | some d => cases d <;> rfl

/-- All that a step can do: the boot step, or a booted step. -/
theorem step_cases {s t : State} (h : step s = .next t) :
    (s.booted = false ∧ t = issue Instr.nop.record (bootTransition (tick s))) ∨
    (s.booted = true ∧ t = issue (decodeWord (busRead32 s (fetchAddr s)).1).record
      (tick (busRead32 s (fetchAddr s)).2)) := by
  rw [step_eq_issue] at h
  cases h
  rcases nextInstr_cases (tick s) with ⟨hb, hn⟩ | ⟨hb, hn⟩
  · exact .inl ⟨hb, by rw [hn]⟩
  · refine .inr ⟨hb, ?_⟩
    rw [hn, show fetchAddr (tick s) = fetchAddr s from rfl, busRead32_tick]

/-- A frame of `n` steps ends where `n` steps end. -/
theorem runTraced_runSteps (n : Nat) (s : State) :
    ∃ t events, runTraced n s = .next (t, events) ∧ runSteps n s = .next t := by
  induction n generalizing s with
  | zero => exact ⟨s, [], rfl, rfl⟩
  | succ n ih =>
    have hs := step_eq_issue s
    obtain ⟨t, events, ht, hr⟩ := ih (issue (nextInstr (tick s)).1.record (nextInstr (tick s)).2)
    refine ⟨t, traceOf (issue (nextInstr (tick s)).1.record (nextInstr (tick s)).2) ++ events, ?_, ?_⟩
    · rw [runTraced, hs]
      simp only [ht]
    · rw [runSteps, hs]
      exact hr

/-- Every host operation completes (60_exceptions.md R166, R173). -/
theorem hostOp_next (op : HostOp) (s : State) : ∃ t reply, hostOp op s = .next (t, reply) := by
  cases op with
  | step =>
    obtain ⟨t, events, h, -⟩ := runTraced_runSteps 1 s
    exact ⟨t, .trace events, by simp only [hostOp, h]⟩
  | stepFrame =>
    obtain ⟨t, events, h, -⟩ := runTraced_runSteps Config.cyclesPerFrame s
    exact ⟨t, .trace events, by simp only [hostOp, stepFrame, h]⟩
  | reset => exact ⟨_, _, rfl⟩
  | loadRom bytes => exact ⟨_, _, rfl⟩
  | setStall => exact ⟨_, _, rfl⟩
  | registerDevice base size dev => exact ⟨_, _, rfl⟩
  | busRead32 addr => exact ⟨_, _, rfl⟩
  | busWrite32 addr v => exact ⟨_, _, rfl⟩
  | observe => exact ⟨_, _, rfl⟩

end Sys2Proof.Machine
end

