-- ==== Sys2Proof/Tests/Slice0.lean ====
section
/-! SUPPORT. Small tests, each on one operation or one step, with its source; words written out for every
constructor; ill-formed terms that the checks refuse; and a concrete state and operands that meet the
hypotheses of each statement. -/

namespace Sys2Proof.Tests

open Sys2Proof Sys2Proof.Machine

/-- A field of the state that an outcome goes on in. -/
def after {α : Type} (f : State → α) : Host.Outcome State Fault Refusal → Option α
  | .next s => some (f s)
  | _ => none

/-- A booted state about to fetch at 0x400, where memory holds the word 0x24221805. -/
def ready : State :=
  { State.reset with booted := true, pc := 0x404, mem := memWrite [] 0x400 0x24221805 }

/-- The same with `stall` set. -/
def readyStalled : State := { ready with stall := true }

/-- A booted state whose fetch address 0x00400000 no registration covers. -/
def unmapped : State := { ready with pc := 0x00400004 }

/-- A booted state whose fetch address belongs to external device 7. -/
def onDevice : State := registerDevice 0x400 4 (.external 7) ready

/-- A state with a record in the slot that executes next and one in the slot that retires next. -/
def inFlight : State :=
  { State.reset with
    gpr := State.reset.gpr.set 3 7
    stage := #v[{ instr := some (decodeRecord 0x24601001), value := 0 }, Slot.bubble, Slot.bubble,
      Slot.bubble, { instr := some (decodeRecord 0x24000805), value := 0x805 }] }

/-! ### Ill-formed terms (the checks of WellFormed and Config) -/

theorem test_wellFormed_refuses_zero_passOp00 : (Instr.passOp00 0 0 0).wellFormed = false := by decide

theorem test_record_refuses_wrong_rd :
    { decodeRecord 0x24221805 with rd := 2 }.wellFormed = false := by decide

theorem test_record_refuses_wrong_target :
    { decodeRecord 0x24221805 with target := 0 }.wellFormed = false := by decide

theorem test_memory_refuses_unsorted : Memory.wf [(5, 1), (3, 1)] = false := by decide

theorem test_memory_refuses_listed_default : Memory.wf [(5, 0)] = false := by decide

theorem test_memory_refuses_offset_past_size : Memory.wf [(0x400000, 1)] = false := by decide

theorem test_config_wellFormed : Config.WellFormed :=
  ⟨by decide, by decide, Nat.le_add_left _ _⟩

/-! ### Words written out from the encoding (30_encoding.md R81, R91): opcode bits, then rs 1, rt 2 and
imm 0x1805, as in the worked decode R92 -/

theorem test_decode_passOp00 : decodeWord 0x00221805 = .passOp00 1 2 0x1805 := by decide
theorem test_decode_passOp01 : decodeWord 0x04221805 = .passOp01 1 2 0x1805 := by decide
theorem test_decode_passOp02 : decodeWord 0x08221805 = .passOp02 1 2 0x1805 := by decide
theorem test_decode_passOp03 : decodeWord 0x0C221805 = .passOp03 1 2 0x1805 := by decide
theorem test_decode_passOp04 : decodeWord 0x10221805 = .passOp04 1 2 0x1805 := by decide
theorem test_decode_passOp05 : decodeWord 0x14221805 = .passOp05 1 2 0x1805 := by decide
theorem test_decode_passOp06 : decodeWord 0x18221805 = .passOp06 1 2 0x1805 := by decide
theorem test_decode_passOp07 : decodeWord 0x1C221805 = .passOp07 1 2 0x1805 := by decide
theorem test_decode_passOp08 : decodeWord 0x20221805 = .passOp08 1 2 0x1805 := by decide
theorem test_decode_addiu : decodeWord 0x24221805 = .addiu 1 2 0x1805 := by decide
theorem test_decode_passOp0A : decodeWord 0x28221805 = .passOp0A 1 2 0x1805 := by decide
theorem test_decode_passOp0B : decodeWord 0x2C221805 = .passOp0B 1 2 0x1805 := by decide
theorem test_decode_passOp0C : decodeWord 0x30221805 = .passOp0C 1 2 0x1805 := by decide
theorem test_decode_passOp0D : decodeWord 0x34221805 = .passOp0D 1 2 0x1805 := by decide
theorem test_decode_passOp0E : decodeWord 0x38221805 = .passOp0E 1 2 0x1805 := by decide
theorem test_decode_passOp0F : decodeWord 0x3C221805 = .passOp0F 1 2 0x1805 := by decide
theorem test_decode_passOp10 : decodeWord 0x40221805 = .passOp10 1 2 0x1805 := by decide
theorem test_decode_passOp11 : decodeWord 0x44221805 = .passOp11 1 2 0x1805 := by decide
theorem test_decode_passOp12 : decodeWord 0x48221805 = .passOp12 1 2 0x1805 := by decide
theorem test_decode_passOp13 : decodeWord 0x4C221805 = .passOp13 1 2 0x1805 := by decide
theorem test_decode_passOp14 : decodeWord 0x50221805 = .passOp14 1 2 0x1805 := by decide
theorem test_decode_passOp15 : decodeWord 0x54221805 = .passOp15 1 2 0x1805 := by decide
theorem test_decode_passOp16 : decodeWord 0x58221805 = .passOp16 1 2 0x1805 := by decide
theorem test_decode_passOp17 : decodeWord 0x5C221805 = .passOp17 1 2 0x1805 := by decide
theorem test_decode_passOp18 : decodeWord 0x60221805 = .passOp18 1 2 0x1805 := by decide
theorem test_decode_passOp19 : decodeWord 0x64221805 = .passOp19 1 2 0x1805 := by decide
theorem test_decode_passOp1A : decodeWord 0x68221805 = .passOp1A 1 2 0x1805 := by decide
theorem test_decode_passOp1B : decodeWord 0x6C221805 = .passOp1B 1 2 0x1805 := by decide
theorem test_decode_passOp1C : decodeWord 0x70221805 = .passOp1C 1 2 0x1805 := by decide
theorem test_decode_passOp1D : decodeWord 0x74221805 = .passOp1D 1 2 0x1805 := by decide
theorem test_decode_passOp1E : decodeWord 0x78221805 = .passOp1E 1 2 0x1805 := by decide
theorem test_decode_passOp1F : decodeWord 0x7C221805 = .passOp1F 1 2 0x1805 := by decide
theorem test_decode_passOp20 : decodeWord 0x80221805 = .passOp20 1 2 0x1805 := by decide
theorem test_decode_passOp21 : decodeWord 0x84221805 = .passOp21 1 2 0x1805 := by decide
theorem test_decode_passOp22 : decodeWord 0x88221805 = .passOp22 1 2 0x1805 := by decide
theorem test_decode_passOp23 : decodeWord 0x8C221805 = .passOp23 1 2 0x1805 := by decide
theorem test_decode_passOp24 : decodeWord 0x90221805 = .passOp24 1 2 0x1805 := by decide
theorem test_decode_passOp25 : decodeWord 0x94221805 = .passOp25 1 2 0x1805 := by decide
theorem test_decode_passOp26 : decodeWord 0x98221805 = .passOp26 1 2 0x1805 := by decide
theorem test_decode_passOp27 : decodeWord 0x9C221805 = .passOp27 1 2 0x1805 := by decide
theorem test_decode_passOp28 : decodeWord 0xA0221805 = .passOp28 1 2 0x1805 := by decide
theorem test_decode_passOp29 : decodeWord 0xA4221805 = .passOp29 1 2 0x1805 := by decide
theorem test_decode_passOp2A : decodeWord 0xA8221805 = .passOp2A 1 2 0x1805 := by decide
theorem test_decode_passOp2B : decodeWord 0xAC221805 = .passOp2B 1 2 0x1805 := by decide
theorem test_decode_passOp2C : decodeWord 0xB0221805 = .passOp2C 1 2 0x1805 := by decide
theorem test_decode_passOp2D : decodeWord 0xB4221805 = .passOp2D 1 2 0x1805 := by decide
theorem test_decode_passOp2E : decodeWord 0xB8221805 = .passOp2E 1 2 0x1805 := by decide
theorem test_decode_passOp2F : decodeWord 0xBC221805 = .passOp2F 1 2 0x1805 := by decide
theorem test_decode_passOp30 : decodeWord 0xC0221805 = .passOp30 1 2 0x1805 := by decide
theorem test_decode_passOp31 : decodeWord 0xC4221805 = .passOp31 1 2 0x1805 := by decide
theorem test_decode_passOp32 : decodeWord 0xC8221805 = .passOp32 1 2 0x1805 := by decide
theorem test_decode_passOp33 : decodeWord 0xCC221805 = .passOp33 1 2 0x1805 := by decide
theorem test_decode_passOp34 : decodeWord 0xD0221805 = .passOp34 1 2 0x1805 := by decide
theorem test_decode_passOp35 : decodeWord 0xD4221805 = .passOp35 1 2 0x1805 := by decide
theorem test_decode_passOp36 : decodeWord 0xD8221805 = .passOp36 1 2 0x1805 := by decide
theorem test_decode_passOp37 : decodeWord 0xDC221805 = .passOp37 1 2 0x1805 := by decide
theorem test_decode_passOp38 : decodeWord 0xE0221805 = .passOp38 1 2 0x1805 := by decide
theorem test_decode_passOp39 : decodeWord 0xE4221805 = .passOp39 1 2 0x1805 := by decide
theorem test_decode_passOp3A : decodeWord 0xE8221805 = .passOp3A 1 2 0x1805 := by decide
theorem test_decode_passOp3B : decodeWord 0xEC221805 = .passOp3B 1 2 0x1805 := by decide
theorem test_decode_passOp3C : decodeWord 0xF0221805 = .passOp3C 1 2 0x1805 := by decide
theorem test_decode_passOp3D : decodeWord 0xF4221805 = .passOp3D 1 2 0x1805 := by decide
theorem test_decode_passOp3E : decodeWord 0xF8221805 = .passOp3E 1 2 0x1805 := by decide
theorem test_decode_passOp3F : decodeWord 0xFC221805 = .passOp3F 1 2 0x1805 := by decide
theorem test_decode_nop : decodeWord 0x00000000 = .nop := by decide

/-- 30_encoding.md R92, bit by bit: 001001 00001 00010 0001100000000101. -/
theorem test_decode_addiu_bits :
    decodeWord 0b00100100001000100001100000000101 = .addiu 1 2 0b0001100000000101 := by decide

/-- 95_test_vectors.md section 2.1, row 0x25FFFFFF. -/
theorem test_record_fields :
    decodeRecord 0x25FFFFFF =
      { opcode := 9, rs := 15, rt := 31, rd := 31, imm := 0xFFFF, target := 0x1FFFFFF } := by decide

theorem test_decodeTableWord_addiu : decodeTableWord 32 0x24221805 = some (.addiu 1 2 0x1805) := by
  decide

theorem test_decodeBytes_short : decodeBytes [0x24, 0x22, 0x18] = .error .truncated := rfl

/-! ### ADDIU and pass-through -/

/-- 95_test_vectors.md section 2.4, A2: call 2 gives slot 1 the value 0x1008. -/
theorem test_execute_addiu :
    after (fun t => t.stage[1].value) (exec .nop inFlight) = some 0x1008 := by decide

/-- Section 2.4, A3: the retiring 0x24000805 writes `gpr[1]` (41_pipeline.md R123). -/
theorem test_retire_addiu : after (fun t => readGpr t 1) (exec .nop inFlight) = some 0x805 := by decide

/-- 10_state.md R23: the read of `gpr[1]` sees the write of the same advance (0x24201003 behind 0x24000805). -/
theorem test_write_first :
    after (fun t => t.stage[1].value) (exec .nop { inFlight with
      stage := inFlight.stage.set 0 { instr := some (decodeRecord 0x24201003), value := 0 } }) =
    some 0x1808 := by decide

/-- Section 2.5: 0xFFFFFFFF plus 0x0801 wraps to 0x800. -/
theorem test_addiu_wraps :
    addiuSum (writeGpr State.reset 15 0xFFFFFFFF) (decodeRecord 0x25E00801) = 0x800 := by decide

/-- Section 2.5: 0x2400FFFF gives 0x0000FFFF, not 0xFFFFFFFF (zero extension). -/
theorem test_addiu_zero_extends : addiuSum State.reset (decodeRecord 0x2400FFFF) = 0xFFFF := by decide

/-- Section 2.5, the column for `IMM_SIGNED = true`. -/
theorem test_immval_signed : immvalWith true 0xFFFF = 0xFFFFFFFF := by decide

/-- Section 2.4, A7: 0x24000005 has `rd = 0` and writes nothing; without the guard it writes 5. -/
theorem test_guard_r0 :
    readGpr (writebackWith true { instr := some (decodeRecord 0x24000005), value := 5 } State.reset) 0 = 0 ∧
    readGpr (writebackWith false { instr := some (decodeRecord 0x24000005), value := 5 } State.reset) 0 = 5 := by
  decide

/-- Section 2.4, A6: 0x00002820 clears `gpr[5]` when it retires. -/
theorem test_pass_clears :
    readGpr (writebackWith true { instr := some (decodeRecord 0x00002820), value := 0 }
      (writeGpr State.reset 5 0x1234)) 5 = 0 := by decide

/-- Section 2.6: the word 0x0800F800 (MIPS `j`) only moves `pc` by 4. -/
theorem test_pass_does_not_jump :
    after (fun t => t.pc) (exec (decodeWord 0x0800F800) ready) = some 0x408 := by decide

/-- Section 2.6: the word 0xAC221800 (MIPS `sw`) writes no memory. -/
theorem test_pass_does_not_store :
    after (fun t => t.mem) (exec (decodeWord 0xAC221800) ready) = some ready.mem := by decide

/-- Section 2.4, A8: `pc` wraps. -/
theorem test_pc_wraps :
    (advance (decodeRecord 0) { State.reset with pc := 0xFFFFFFFC }).2 = some 0 := by decide

/-- Section 2.4, A5: a stalled advance returns none and only clears the flag. -/
theorem test_stall : advance (decodeRecord 0x24000805) readyStalled = (ready, none) := by decide

/-! ### Bus and memory -/

/-- Section 2.2, rows 1 and 2: an unaligned write, then aligned and unaligned reads. -/
theorem test_bus_write_read :
    (busRead32 (busWrite32 State.reset 0x123 0xDEADBEEF) 0x121).1 = 0xDEADBEEF ∧
    memReadByte (busWrite32 State.reset 0x123 0xDEADBEEF).mem 0x120 = 0xDE := by decide

/-- Section 2.2: outside the default map a read gives 0. -/
theorem test_bus_unmapped :
    (busRead32 State.reset 0x00400000).1 = 0 ∧ (busRead32 State.reset 0xFFFFFFFF).1 = 0 := by decide

/-- Section 2.2: the memory device registered again at 0x80000000 shows the same bytes. -/
theorem test_bus_mirror :
    (busRead32 (registerDevice 0x80000000 0x400000 .memory
      (busWrite32 State.reset 0x123 0xDEADBEEF)) 0x80000120).1 = 0xDEADBEEF := by decide

/-- Section 2.2: D1 over [0x1000, 0x2000), then D2 over [0x1800, 0x1900). -/
theorem test_bus_last_wins :
    let bm := (registerDevice 0x1800 0x100 (.external 2)
      (registerDevice 0x1000 0x1000 (.external 1) State.reset)).busmap
    lookup bm 0x1804 = some (.external 2) ∧ lookup bm 0x17FC = some (.external 1) ∧
      lookup bm 0x1900 = some (.external 1) ∧ lookup bm 0x2000 = some .memory := by decide

/-- Section 2.2: an unaligned base, and a range that would run past 2^32. -/
theorem test_covers_edges :
    covers ⟨0x1002, 8, .memory⟩ 0x1000 = false ∧ covers ⟨0x1002, 8, .memory⟩ 0x1004 = true ∧
    covers ⟨0x1002, 8, .memory⟩ 0x1008 = true ∧ covers ⟨0x1002, 8, .memory⟩ 0x100C = false ∧
    covers ⟨0xFFFFFFF8, 16, .memory⟩ 0xFFFFFFFC = true ∧ covers ⟨0xFFFFFFF8, 16, .memory⟩ 0 = false ∧
    covers ⟨0x10, 0, .memory⟩ 0x10 = false := by decide

/-- Section 2.3: offsets of the memory device. -/
theorem test_offsets : memOffset 0x00400120 = 0x120 ∧ memOffset 0xA0000400 = 0x400 := by decide

/-- Section 2.3: a short image keeps the bytes beyond it. -/
theorem test_load_rom_short :
    memRead (loadRom [1, 2] { State.reset with mem := [(2, 0xEE), (3, 0xFF)] }).mem 0 = 0x0102EEFF := by
  decide

/-- 20_memory.md R63: an index past the size wraps to the offset below it. -/
theorem test_load_wraps : loadBytesFrom 0x3FFFFF [0xAA, 0xBB] [] = [(0, 0xBB), (0x3FFFFF, 0xAA)] := by
  decide

/-- Writing the value an unlisted offset reads as removes the cell. -/
theorem test_write_default_removes : memWriteByte [(1, 5), (2, 6)] 1 0 = [(2, 6)] := by decide

/-! ### Step -/

/-- Section 2.7, C1: the boot step. -/
theorem test_boot : after (fun t => (t.cycles, t.instret, t.booted, t.stage[0])) (step State.reset) =
    some (1, 1, true, { instr := some (decodeRecord 0), value := 0 }) := by decide

/-- Section 2.7, C1: the boot step ends at the entry vector plus 4. -/
theorem test_boot_pc : after (fun t => t.pc) (step State.reset) = some (Config.entryVector + 4) := rfl

/-- 40_controller.md R103, R106: a booted step takes the word at `pc - 4` in and moves `pc` by 4. -/
theorem test_step_fetches : after (fun t => (t.stage[0].instr, t.pc)) (step ready) =
    some (some (decodeRecord 0x24221805), 0x408) := by decide

/-- Section 2.7, C3: a stalled step counts, discards its word and keeps `pc`. -/
theorem test_step_stalled : after (fun t => (t.cycles, t.pc, t.stage[0], t.stall)) (step readyStalled) =
    some (1, 0x404, Slot.bubble, false) := by decide

/-- Section 2.7, C7: an event at cycle 500 only. -/
theorem test_trace : traceOf { ready with cycles := 500 } = [⟨500, 0x404⟩] ∧
    traceOf { ready with cycles := 501 } = [] := by decide

/-- The step after `withFetchWord` runs the word as the first instruction after reset (log entry 7). -/
theorem test_withFetchWord : after (fun t => t.stage[0].instr)
    (step (State.reset.withFetchWord 32 0x24221805)) = some (some (decodeRecord 0x24221805)) := by decide

/-- Section 1, S4: reset keeps memory and clears the slots. -/
theorem test_reset : (hostReset inFlight).stage = State.reset.stage ∧ (hostReset ready).mem = ready.mem := by
  decide

/-! ### Witnesses: a state and operands that meet the hypotheses of each statement that has any -/

theorem witness_DecodeOfEncode : (Instr.addiu 1 2 0x1805).wellFormed = true ∧
    (Instr.passOp00 0 0 1).wellFormed = true ∧ Instr.nop.wellFormed = true := by decide

theorem witness_FourBytesDecode : ([0x24, 0x22, 0x18] : List Byte).length < 4 := by decide

/-- For AddiuEntersPipeline and AddiuWritesSumAtFifthAdvance; the two immediates are the last with `rd = 0`
and the first with `rd = 1`. -/
theorem witness_AddiuEntersPipeline : ready.stall = false ∧
    (0x07FF : Imm16).toNat / 2 ^ 11 = 0 ∧ (0x0800 : Imm16).toNat / 2 ^ 11 = 1 := by decide

/-- For PassThroughEntersPipeline and PassThroughClearsAtFifthAdvance. -/
theorem witness_PassThroughEntersPipeline :
    (∀ rs rt imm, Instr.passOp2B 1 2 0x1800 ≠ .addiu rs rt imm) ∧
    Instr.passOp2B 1 2 0x1800 ≠ .nop ∧ ready.stall = false :=
  ⟨fun _ _ _ => nofun, nofun, rfl⟩

/-- For NopEntersPipeline and NopRetiresWithoutEffect. -/
theorem witness_NopEntersPipeline : inFlight.stall = false := by decide

theorem witness_StalledAdvanceOnlyClearsStall : readyStalled.stall = true := by decide

/-- For EveryInstructionFrame and OneShiftPerNonStalledAdvance, both clauses. -/
theorem witness_EveryInstructionFrame :
    (∃ t, exec (.addiu 1 2 0x1805) inFlight = .next t ∧ inFlight.stall = false) ∧
    ∃ t, exec (.addiu 1 2 0x1805) readyStalled = .next t ∧ readyStalled.stall = true :=
  ⟨⟨_, rfl, rfl⟩, ⟨_, rfl, rfl⟩⟩

theorem witness_AdvanceReturnsUpdatedPc : ready.stall = false ∧ readyStalled.stall = true := by decide

theorem witness_AdvanceExecutesAfterWriteback : inFlight.stall = false ∧
    inFlight.stage[0].instr = some (decodeRecord 0x24601001) ∧
    (decodeRecord 0x24601001).opcode = Config.addiuOpcode := by decide

/-- Both cases of execute: another opcode or a bubble in slot 1, and ADDIU in slot 1. -/
theorem witness_ExecuteWritesOnlySlotOneValue :
    (∀ e, ready.stage[1].instr = some e → e.opcode ≠ Config.addiuOpcode) ∧
    (shiftIn (decodeRecord 0) inFlight).stage[1].instr = some (decodeRecord 0x24601001) :=
  ⟨nofun, rfl⟩

/-- Both kinds of producer, at the least distance. -/
theorem witness_ConsumerAtDistanceFourSeesResult : ready.stall = false ∧ (1 : RegIdx) ≠ 0 ∧
    (Instr.addiu 0 0 0x0805).record.rd = 1 ∧ (Instr.addiu 0 0 0x0805).record.opcode = 9 ∧
    (Instr.passOp00 0 0 0x0820).record.rd = 1 ∧ (Instr.passOp00 0 0 0x0820).record.opcode ≠ 9 ∧
    2 ≤ [Instr.nop, Instr.nop].length ∧
    Instr.nop.record.rd ≠ 1 ∧ ∀ i ∈ [Instr.nop, Instr.nop], i.record.rd ≠ 1 := by decide

theorem witness_ConsumerBelowDistanceFourIgnoresProducer :
    ready.stall = false ∧ [Instr.nop, Instr.nop].length ≤ 2 := by decide

theorem witness_LaterWriterRemains : ready.stall = false ∧ (1 : RegIdx) ≠ 0 ∧
    (1 : RegIdx).toNat = (0x0803 : Imm16).toNat / 2 ^ 11 ∧
    (∀ a b c, Instr.passOp00 0 0 0x0820 ≠ .addiu a b c) ∧ (Instr.passOp00 0 0 0x0820).record.rd = 1 :=
  ⟨rfl, by decide, by decide, fun _ _ _ => nofun, rfl⟩

theorem witness_BootedStepReadsTheBusOnce : ready.booted = true ∧
    busRead32 ready (mask32 (ready.pc.toNat - 4)) = (0x24221805, ready) := by decide

theorem witness_StepRunsFetchedInstruction : ready.booted = true ∧
    (Instr.addiu 1 2 0x1805).wellFormed = true ∧
    lookup ready.busmap (busAlign (mask32 (ready.pc.toNat - 4))) = some .memory ∧
    memRead ready.mem (busAlign (mask32 (ready.pc.toNat - 4))) = encode (.addiu 1 2 0x1805) := by decide

theorem witness_StepRunsNopWhereUnmapped : unmapped.booted = true ∧
    lookup unmapped.busmap (busAlign (mask32 (unmapped.pc.toNat - 4))) = none := by decide

theorem witness_StepRunsExternalWord : onDevice.booted = true ∧
    lookup onDevice.busmap (busAlign (mask32 (onDevice.pc.toNat - 4))) = some (.external 7) := by decide

theorem witness_BootStep : State.reset.booted = false ∧ State.reset.stall = false ∧
    (raiseStall State.reset).booted = false ∧ (raiseStall State.reset).stall = true := by decide

theorem witness_OnlyResetClearsBooted :
    (∃ t, step ready = .next t) ∧ ∃ t reply, hostOp .reset ready = .next (t, reply) ∧
      ready.booted = true ∧ t.booted = false :=
  ⟨⟨_, rfl⟩, ⟨_, _, rfl, rfl, rfl⟩⟩

theorem witness_FetchSequenceWithoutStalls : ready.stall = false ∧ ready.booted = true ∧
    State.reset.stall = false ∧ State.reset.booted = false := by decide

theorem witness_StalledStepRepeatsFetch :
    readyStalled.booted = true ∧ readyStalled.stall = true := by decide

theorem witness_TraceEveryFiveHundredCycles :
    (∃ t, step { ready with cycles := 499 } = .next t ∧ t.cycles.toNat % 500 = 0) ∧
    ∃ t, step ready = .next t ∧ t.cycles.toNat % 500 ≠ 0 :=
  ⟨⟨_, rfl, by decide⟩, ⟨_, rfl, by decide⟩⟩

/-- For every statement whose only hypothesis is that memory is canonical. -/
theorem witness_memory_wf : ready.mem.wf = true ∧ State.reset.mem.wf = true := by decide

/-- For MemoryReadIsBigEndian, MemoryWriteStoresFourBytes, HostReadsBackItsWrite and HostWriteIsFetchedNext. -/
theorem witness_memory_routed : ready.booted = true ∧ ready.mem.wf = true ∧
    lookup ready.busmap (busAlign 0x123) = some .memory ∧
    lookup ready.busmap (busAlign (mask32 (-0x100000000))) = some .memory ∧
    lookup ready.busmap (busAlign (fetchAddr ready)) = some .memory := by decide

theorem witness_CanonicalMemoriesAreDetermined : Memory.wf [(5, 1)] = true ∧
    ∀ o, memReadByte [(5, 1)] o = memReadByte [(5, 1)] o := ⟨by decide, fun _ => rfl⟩

/-- The last index that reaches an offset, and an offset no index reaches. -/
theorem witness_LoadRomCopiesImage : State.reset.mem.wf = true ∧
    ([0xAA, 0xBB] : List Byte)[1]? = some 0xBB ∧
    ([0xAA, 0xBB] : List Byte).length ≤ 1 + Config.memSize ∧
    ∀ i, i < ([0xAA, 0xBB] : List Byte).length → i % Config.memSize ≠ 2 := by decide

theorem witness_UnmappedReadsZeroWritesNothing :
    ∀ r ∈ State.reset.busmap, covers r (busAlign 0x00400000) = false := by decide

/-- Both branches of the condition at its two edges. -/
theorem witness_LastRegistrationWins :
    let inside : Word → Bool := fun A => decide (A.toNat % 4 = 0 ∧ (0x1000 : Word).toNat ≤ A.toNat ∧
      A.toNat < (0x1000 : Word).toNat + 8)
    inside 0xFFC = false ∧ inside 0x1000 = true ∧ inside 0x1004 = true ∧ inside 0x1008 = false := by decide

theorem witness_ExternalAccessLeavesBlock :
    lookup onDevice.busmap (busAlign 0x402) = some (.external 7) := by decide

/-- R52, R54, R55: the device gets the aligned address and the value. -/
theorem test_external_write_logged :
    (busWrite32 onDevice 0x402 5).deviceLog = [.write 7 0x400 5] := by decide

/-- R53, R55: a read after a write is asked with that write in its history. -/
theorem test_external_read_after_write :
    (busRead32 (busWrite32 onDevice 0x400 5) 0x400).1 =
      Config.externalRead 7 0x400 [.write 7 0x400 5] := rfl

/-- R173: the end of a run is the state after its last operation. -/
theorem test_run_end : (match runHost [.setStall, .observe] ready with
    | .next (t, replies) => decide (t = readyStalled ∧ replies = [.nothing, .observed readyStalled])
    | _ => false) = true := by decide

theorem witness_HostBusOperationsLeaveCore :
    (∃ t r, hostOp (.loadRom [1]) ready = .next (t, r)) ∧
    (∃ t r, hostOp (.registerDevice 0 4 (.external 1)) ready = .next (t, r)) ∧
    (∃ t r, hostOp (.busRead32 0x400) ready = .next (t, r)) ∧
    (∃ t r, hostOp (.busWrite32 0x400 5) ready = .next (t, r)) ∧
    ∃ t r, hostOp .observe ready = .next (t, r) :=
  ⟨⟨_, _, rfl⟩, ⟨_, _, rfl⟩, ⟨_, _, rfl⟩, ⟨_, _, rfl⟩, ⟨_, _, rfl⟩⟩

theorem witness_SetStallAndObserve : readyStalled.stall = true := by decide

/-- A booted state that has the invariant; it goes on under a step and under a host operation. -/
def running : State := { State.reset with booted := true, pc := Config.entryVector }

theorem witness_StepKeepsInvariant : BlockInv running ∧ (∃ t, step running = .next t) ∧
    ∃ t r, hostOp (.busWrite32 0x400 5) running = .next (t, r) := by
  refine ⟨⟨rfl, rfl, ⟨rfl, rfl, fun _ => rfl, rfl, rfl, rfl, rfl, rfl⟩, ?_, ?_, rfl, ?_, nofun,
    fun _ => rfl, rfl, rfl⟩, ⟨_, step_eq_issue running⟩, ⟨_, _, rfl⟩⟩
  · intro k r h; fin_cases k <;> cases h
  · intro k _; fin_cases k <;> rfl
  · intro k _; fin_cases k <;> rfl

theorem witness_NoStepChangesRegisterZero : ∃ t, step inFlight = .next t := ⟨_, rfl⟩

theorem witness_UnreadStateDoesNotMatter : (∃ t, step ready = .next t) ∧
    ({ ready with hi := 1, cause := 2 } : State) = { ready with
      hi := 1, lo := 0, fpr := ready.fpr, status := 0, cause := 2, epc := 0, badvaddr := 0
      excPending := false, romImage := [] } :=
  ⟨⟨_, rfl⟩, rfl⟩

end Sys2Proof.Tests
end

section
/-! The shift of an advance (10_state.md R29; 41_pipeline.md R120, R124). -/

namespace Sys2Proof.Machine

/-- Executing never changes the record in slot 1, whether its opcode is ADDIU's or not (10_state.md R29). -/
theorem Enters.slot1_instr {r : InstrRecord} {s t : State} (h : Enters r s t) :
    t.stage[1].instr = s.stage[0].instr := by
  by_cases hadd : ∃ e, s.stage[0].instr = some e ∧ e.opcode = 9
  · obtain ⟨e, he, hop⟩ := hadd
    rw [h.computes e he hop, he]
  · rw [h.passes fun e he hop => hadd ⟨e, he, hop⟩]

/-- Every record moves one slot on. -/
theorem Enters.instr_moves {r : InstrRecord} {s t : State} (h : Enters r s t) (k : Fin 4) :
    t.stage[k.succ].instr = s.stage[k.castSucc].instr := by
  match k with
  | 0 => exact h.slot1_instr
  | 1 => exact congrArg Slot.instr h.moved2
  | 2 => exact congrArg Slot.instr h.moved3
  | 3 => exact congrArg Slot.instr h.moved4

/-- Every value moves one slot on, but the one that goes to slot 1, on which execute works. -/
theorem Enters.value_moves {r : InstrRecord} {s t : State} (h : Enters r s t) {k : Fin 4} (hk : k ≠ 0) :
    t.stage[k.succ].value = s.stage[k.castSucc].value := by
  match k with
  | 0 => exact absurd rfl hk
  | 1 => exact congrArg Slot.value h.moved2
  | 2 => exact congrArg Slot.value h.moved3
  | 3 => exact congrArg Slot.value h.moved4

/-- Settles O17: the two outcomes of an instruction's own step, by the stall flag. -/
theorem oneShiftPerNonStalledAdvance : Obligations.OneShiftPerNonStalledAdvance := by
  intro i s t h
  rcases exec_cases h with ⟨hs, hent⟩ | ⟨hs, rfl⟩
  · exact ⟨fun hs' => absurd (hs.symm.trans hs') nofun, fun _ =>
      ⟨congrArg Slot.instr hent.newest, hent.instr_moves, fun _ => hent.value_moves⟩⟩
  · exact ⟨fun _ => ⟨rfl, rfl⟩, fun hs' => absurd (hs.symm.trans hs') nofun⟩

end Sys2Proof.Machine
end

section
/-! The booted flag (10_state.md R31): what a step, a run and a host operation do to it. -/

namespace Sys2Proof.Machine

/-- No record changes the booted flag in its own step, stalled or not. -/
@[simp] theorem issue_booted (r : InstrRecord) (s : State) : (issue r s).booted = s.booted := by
  cases hs : s.stall with
  | false => exact (issue_enters hs r).untouched.booted
  | true => rw [issue_of_stall hs, State.setStall_booted]

/-- A bus read leaves the booted flag. -/
@[simp] theorem busRead32_booted (s : State) (a : Word) : (busRead32 s a).2.booted = s.booted := by
  obtain ⟨l, hl⟩ := busRead32_state s a
  rw [hl, State.setDeviceLog_booted]

/-- A bus read leaves `pc`. -/
@[simp] theorem busRead32_pc (s : State) (a : Word) : (busRead32 s a).2.pc = s.pc := by
  obtain ⟨l, hl⟩ := busRead32_state s a
  rw [hl, State.setDeviceLog_pc]

/-- A bus write leaves the booted flag. -/
@[simp] theorem busWrite32_booted (s : State) (a v : Word) : (busWrite32 s a v).booted = s.booted := by
  obtain ⟨m, l, hl⟩ := busWrite32_state s a v
  rw [hl, State.setDeviceLog_booted, State.setMem_booted]

/-- The instruction of a step finds `pc` at the entry vector on the boot step only (40_controller.md R102). -/
theorem nextInstr_pc (s : State) :
    (nextInstr s).2.pc = if s.booted then s.pc else Config.entryVector := by
  rcases nextInstr_cases s with ⟨hb, hn⟩ | ⟨hb, hn⟩
  · rw [hn, hb]
    rfl
  · rw [hn, hb, busRead32_pc]
    rfl

/-- Every step ends booted (40_controller.md R102). -/
theorem step_booted {s t : State} (h : step s = .next t) : t.booted = true := by
  rcases step_cases h with ⟨_, rfl⟩ | ⟨hb, rfl⟩
  · rw [issue_booted]
    rfl
  · rw [issue_booted]
    exact (busRead32_booted s _).trans hb

/-- A run of steps from a booted state ends booted. -/
theorem runSteps_booted {n : Nat} {s t : State} (h : runSteps n s = .next t) (hb : s.booted = true) :
    t.booted = true := by
  induction n generalizing s with
  | zero =>
    cases h
    exact hb
  | succ n ih =>
    have hs := step_eq_issue s
    rw [runSteps, hs] at h
    exact ih h (step_booted hs)

/-- The host's `step` ends where one step ends. -/
theorem runSteps_of_hostOp_step {s t : State} {reply : HostReply}
    (h : hostOp .step s = .next (t, reply)) : runSteps 1 s = .next t := by
  obtain ⟨u, events, hu, hr⟩ := runTraced_runSteps 1 s
  simp only [hostOp, hu] at h
  cases h
  exact hr

/-- The host's `step_frame` ends where the steps of one frame end (40_controller.md R110). -/
theorem runSteps_of_hostOp_stepFrame {s t : State} {reply : HostReply}
    (h : hostOp .stepFrame s = .next (t, reply)) : runSteps Config.cyclesPerFrame s = .next t := by
  obtain ⟨u, events, hu, hr⟩ := runTraced_runSteps Config.cyclesPerFrame s
  simp only [hostOp, stepFrame, hu] at h
  cases h
  exact hr

/-- Every host operation but `reset` keeps a booted block booted. -/
theorem hostOp_keeps_booted {op : HostOp} {s t : State} {reply : HostReply}
    (h : hostOp op s = .next (t, reply)) (hop : op ≠ .reset) (hb : s.booted = true) :
    t.booted = true := by
  cases op with
  | step => exact runSteps_booted (runSteps_of_hostOp_step h) hb
  | stepFrame => exact runSteps_booted (runSteps_of_hostOp_stepFrame h) hb
  | reset => exact absurd rfl hop
  | loadRom _ | setStall | registerDevice _ _ _ | observe =>
    cases h
    exact hb
  | busRead32 addr =>
    cases h
    rw [busRead32_booted, hb]
  | busWrite32 addr v =>
    cases h
    rw [busWrite32_booted, hb]

/-- Settles O33: every step ends booted, and of the host's operations only `reset` clears the flag. -/
theorem onlyResetClearsBooted : Obligations.OnlyResetClearsBooted := by
  refine ⟨rfl, fun _ => rfl, fun _ _ => step_booted, nextInstr_pc, ?_⟩
  intro op s t reply h hb ht
  by_contra hop
  rw [hostOp_keeps_booted h hop hb] at ht
  cases ht

end Sys2Proof.Machine
end

section
/-! The memory device's word (20_memory.md R59 to R61) and the accesses that the bus routes to it, or to
nothing (R53, R54, R56). -/

namespace Sys2Proof.Machine

/-- The offset of byte `j` of the word at an address: `(o + j) mod S` of R60 and R61. -/
def wordByteOffset (a : Word) (j : Nat) : Nat := (memOffset a + j) % Config.memSize

/-- The first byte of a word is at the address's own offset: R60 and R61 need no `mod S` for it. -/
theorem wordByteOffset_zero (a : Word) : wordByteOffset a 0 = memOffset a :=
  Nat.mod_eq_of_lt (memOffset_lt a)

theorem wordByteOffset_lt (a : Word) (j : Nat) : wordByteOffset a j < Config.memSize :=
  mod_memSize_lt _

/-- The four bytes of a word are at four different offsets, also where the word wraps. -/
theorem wordByteOffset_inj {a : Word} {j k : Nat} (hj : j < 4) (hk : k < 4) :
    wordByteOffset a j = wordByteOffset a k ↔ j = k := by
  have ho := memOffset_lt a
  simp only [wordByteOffset, Config.memSize] at ho ⊢
  omega

/-- A byte put below some bits, as a number. -/
theorem toNat_append_byte {n : Nat} (x : BitVec n) (b : Byte) :
    (x ++ b).toNat = x.toNat * 2 ^ 8 + b.toNat := by
  rw [BitVec.toNat_append, ← Nat.shiftLeft_add_eq_or_of_lt b.isLt, Nat.shiftLeft_eq]

/-- Four bytes side by side are the big-endian number of them (R60). -/
theorem wordOfBytes_eq_ofNat (b0 b1 b2 b3 : Byte) :
    wordOfBytes b0 b1 b2 b3 = BitVec.ofNat 32
      (b0.toNat * 2 ^ 24 + b1.toNat * 2 ^ 16 + b2.toNat * 2 ^ 8 + b3.toNat) := by
  have hnat : (wordOfBytes b0 b1 b2 b3).toNat =
      b0.toNat * 2 ^ 24 + b1.toNat * 2 ^ 16 + b2.toNat * 2 ^ 8 + b3.toNat := by
    simp only [wordOfBytes, toNat_append_byte]
    omega
  rw [← hnat, BitVec.ofNat_toNat, BitVec.setWidth_eq]

/-- Byte `j` of a word, from its number (R61). -/
theorem byteOfWord_eq_ofNat (w : Word) (j : Nat) :
    byteOfWord w j = BitVec.ofNat 8 (w.toNat / 2 ^ (24 - 8 * j)) :=
  congrArg (BitVec.ofNat 8) (Nat.shiftRight_eq_div_pow _ _)

/-- A word read, by the offsets of its bytes. -/
theorem memRead_eq_wordOfBytes (m : Memory) (a : Word) :
    memRead m a = wordOfBytes (memReadByte m (memOffset a)) (memReadByte m (wordByteOffset a 1))
      (memReadByte m (wordByteOffset a 2)) (memReadByte m (wordByteOffset a 3)) := rfl

/-- A word written is its four bytes written, the highest first. -/
theorem memWrite_eq_memWriteByte (m : Memory) (a v : Word) :
    memWrite m a v =
      memWriteByte (memWriteByte (memWriteByte (memWriteByte m
        (memOffset a) (byteOfWord v 0)) (wordByteOffset a 1) (byteOfWord v 1))
        (wordByteOffset a 2) (byteOfWord v 2)) (wordByteOffset a 3) (byteOfWord v 3) := rfl

/-- The byte at any offset after a word write: the last of the four byte writes at that offset decides. -/
theorem memReadByte_memWrite {m : Memory} (h : m.wf = true) (a v : Word) (o : Nat) :
    memReadByte (memWrite m a v) o =
      if o = wordByteOffset a 3 then byteOfWord v 3
      else if o = wordByteOffset a 2 then byteOfWord v 2
      else if o = wordByteOffset a 1 then byteOfWord v 1
      else if o = wordByteOffset a 0 then byteOfWord v 0
      else memReadByte m o := by
  have h0 := memWriteByte_wf h (memOffset_lt a) (byteOfWord v 0)
  have h1 := memWriteByte_wf h0 (wordByteOffset_lt a 1) (byteOfWord v 1)
  have h2 := memWriteByte_wf h1 (wordByteOffset_lt a 2) (byteOfWord v 2)
  rw [memWrite_eq_memWriteByte, memReadByte_memWriteByte h2, memReadByte_memWriteByte h1,
    memReadByte_memWriteByte h0, memReadByte_memWriteByte h, wordByteOffset_zero]

/-- A word write stores byte `j` of the value at the offset of byte `j`: no later byte write hits it. -/
theorem memReadByte_memWrite_wordByteOffset {m : Memory} (h : m.wf = true) (a v : Word) {j : Nat} (hj : j < 4) :
    memReadByte (memWrite m a v) (wordByteOffset a j) = byteOfWord v j := by
  rw [memReadByte_memWrite h]
  interval_cases j <;> simp [wordByteOffset_inj]

/-- A word write leaves every byte outside the word. -/
theorem memReadByte_memWrite_other {m : Memory} (h : m.wf = true) (a v : Word) {o : Nat}
    (ho : ∀ j < 4, o ≠ wordByteOffset a j) : memReadByte (memWrite m a v) o = memReadByte m o := by
  rw [memReadByte_memWrite h, if_neg (ho 3 (by decide)), if_neg (ho 2 (by decide)),
    if_neg (ho 1 (by decide)), if_neg (ho 0 (by decide))]

/-- A bus read where nothing is registered (R56). -/
theorem busRead32_of_unmapped {s : State} {a : Word} (h : lookup s.busmap (busAlign a) = none) :
    busRead32 s a = (0, s) := by
  rw [busRead32, h]

/-- A bus write where nothing is registered (R56). -/
theorem busWrite32_of_unmapped {s : State} {a : Word} (h : lookup s.busmap (busAlign a) = none)
    (v : Word) : busWrite32 s a v = s := by
  rw [busWrite32, h]

/-- A bus read that reaches the memory device (R53, R60). -/
theorem busRead32_of_memory {s : State} {a : Word} (h : lookup s.busmap (busAlign a) = some .memory) :
    busRead32 s a = (memRead s.mem (busAlign a), s) := by
  rw [busRead32, h]

/-- A bus write that reaches the memory device (R54, R61). -/
theorem busWrite32_of_memory {s : State} {a : Word} (h : lookup s.busmap (busAlign a) = some .memory)
    (v : Word) : busWrite32 s a v = s.setMem (memWrite s.mem (busAlign a) v) := by
  rw [busWrite32, h]

/-- Settles O39: the word as a number, and the state that the bus read answers. -/
theorem memoryReadIsBigEndian : Obligations.MemoryReadIsBigEndian := by
  refine ⟨fun m a => ?_, fun s a h => ?_⟩
  · exact (memRead_eq_wordOfBytes m a).trans (wordOfBytes_eq_ofNat _ _ _ _)
  · rw [busRead32_of_memory h]

/-- Settles O40: the bytes of the word, the bytes outside it, and the write that the bus makes of it. -/
theorem memoryWriteStoresFourBytes : Obligations.MemoryWriteStoresFourBytes := by
  refine ⟨fun m a v hm => ⟨fun j => ?_, fun o ho => ?_⟩, fun s a v h => ?_⟩
  · exact (memReadByte_memWrite_wordByteOffset hm a v j.isLt).trans (byteOfWord_eq_ofNat v j)
  · exact memReadByte_memWrite_other hm a v fun j hj => ho ⟨j, hj⟩
  · exact busWrite32_of_memory h v

/-- Settles O46: nothing covers the address, so the lookup that both accesses make finds no device. -/
theorem unmappedReadsZeroWritesNothing : Obligations.UnmappedReadsZeroWritesNothing := by
  intro s a v hcov
  have hnone : lookup s.busmap (busAlign a) = none := lookup_eq_none hcov
  exact ⟨busRead32_of_unmapped hnone, busWrite32_of_unmapped hnone v⟩

end Sys2Proof.Machine
end

section
/-! The fetch of a booted step (40_controller.md R103, R104): the one bus read, and the instruction that the decoder
makes of its word. -/

namespace Sys2Proof.Machine

/-- The instruction of a word has the record that `decode` of 30_encoding.md R81 makes of the word. -/
theorem decodeWord_record (w : Word) : (decodeWord w).record = decodeRecord w := by
  rw [Laws.decodeRecord_eq_recordOf, Instr.record, decodeWord, Laws.decodeFields_opcode,
    Laws.decodeFields_operands]

/-- A bus read leaves the slots. -/
@[simp] theorem busRead32_stage (s : State) (a : Word) : (busRead32 s a).2.stage = s.stage := by
  obtain ⟨l, hl⟩ := busRead32_state s a
  rw [hl, State.setDeviceLog_stage]

/-- A bus read leaves the stall flag. -/
@[simp] theorem busRead32_stall (s : State) (a : Word) : (busRead32 s a).2.stall = s.stall := by
  obtain ⟨l, hl⟩ := busRead32_state s a
  rw [hl, State.setDeviceLog_stall]

/-- A bus read leaves the general registers. -/
@[simp] theorem readGpr_busRead32 (s : State) (a : Word) (k : RegIdx) :
    readGpr (busRead32 s a).2 k = readGpr s k := by
  obtain ⟨l, hl⟩ := busRead32_state s a
  rw [hl]
  rfl

/-- The counters are not on the bus side. -/
theorem sameBus_tick (s : State) : SameBus s (tick s) := ⟨rfl, fun _ => rfl, rfl, rfl, rfl⟩

/-- A booted step, stalled or not, is the instruction of the word that one bus read at the fetch address answers,
on the state after that read and after both counters. -/
theorem step_of_booted {s : State} (hb : s.booted = true) :
    step s = exec (decodeWord (busRead32 s (fetchAddr s)).1) (tick (busRead32 s (fetchAddr s)).2) := by
  rcases nextInstr_cases (tick s) with ⟨hunbooted, _⟩ | ⟨_, hn⟩
  · exact absurd (hb.symm.trans hunbooted) nofun
  · rw [step, hn, show fetchAddr (tick s) = fetchAddr s from rfl, busRead32_tick]

/-- Settles O27: the instruction runs on the state after the one bus read, with both counters up. -/
theorem bootedStepReadsTheBusOnce : Obligations.BootedStepReadsTheBusOnce := by
  intro s w u hb hread
  rw [← sub_four_eq_mask32, ← fetchAddr] at hread
  obtain rfl : (busRead32 s (fetchAddr s)).1 = w := congrArg Prod.fst hread
  obtain rfl : (busRead32 s (fetchAddr s)).2 = u := congrArg Prod.snd hread
  exact ⟨decodeWord_record _, tick (busRead32 s (fetchAddr s)).2, step_of_booted hb, sameBus_tick _,
    busRead32_pc _ _, busRead32_stage _ _, busRead32_stall _ _, readGpr_busRead32 _ _⟩

end Sys2Proof.Machine
end

section
/-! Execute (41_pipeline.md R127 to R129): what it writes, and what it leaves. -/

namespace Sys2Proof.Machine

/-- An ADDIU record in slot 1 gets its sum (R128). -/
theorem execute_of_addiu {s : State} {e : InstrRecord} (he : s.stage[1].instr = some e)
    (hop : e.opcode = Config.addiuOpcode) :
    execute s = s.setStage (s.stage.set 1 { instr := some e, value := addiuSum s e }) := by
  rw [execute, he]
  exact if_pos hop

/-- A bubble or a record with another opcode in slot 1 leaves execute nothing to do (R129). -/
theorem execute_of_not_addiu {s : State}
    (hno : ∀ e, s.stage[1].instr = some e → e.opcode ≠ Config.addiuOpcode) : execute s = s := by
  rcases execute_cases s with ⟨e, he, hop, _⟩ | ⟨_, hx⟩
  · exact absurd hop (hno e he)
  · exact hx

/-- Execute writes the value of slot 1 and nothing else, whatever that slot holds (R129). -/
theorem execute_eq_setStage (s : State) :
    ∃ v, execute s = s.setStage (s.stage.set 1 { instr := s.stage[1].instr, value := v }) := by
  rcases execute_cases s with ⟨e, he, _, hx⟩ | ⟨_, hx⟩
  · exact ⟨addiuSum s e, by rw [hx, he]⟩
  · have hsame : s.stage.set 1 { instr := s.stage[1].instr, value := s.stage[1].value } = s.stage :=
      Vector.set_getElem_self _
    exact ⟨s.stage[1].value, by rw [hx, hsame]; rfl⟩

/-- The slots are not among what no instruction touches. -/
theorem untouched_setStage (s : State) (v : Vector Slot 5) : Untouched s (s.setStage v) :=
  ⟨⟨rfl, rfl, fun _ => rfl, rfl, rfl, rfl, rfl, rfl⟩, ⟨rfl, fun _ => rfl, rfl, rfl, rfl⟩, rfl, rfl, rfl⟩

@[simp] theorem execute_pc (s : State) : (execute s).pc = s.pc := by
  obtain ⟨v, hv⟩ := execute_eq_setStage s
  rw [hv, State.setStage_pc]

@[simp] theorem execute_stall (s : State) : (execute s).stall = s.stall := by
  obtain ⟨v, hv⟩ := execute_eq_setStage s
  rw [hv, State.setStage_stall]

@[simp] theorem readGpr_execute (s : State) (k : RegIdx) : readGpr (execute s) k = readGpr s k := by
  obtain ⟨v, hv⟩ := execute_eq_setStage s
  rw [hv, readGpr_setStage]

/-- Execute keeps the record of slot 1: it writes only the value (10_state.md R29). -/
theorem execute_slot1_instr (s : State) : (execute s).stage[1].instr = s.stage[1].instr := by
  obtain ⟨v, hv⟩ := execute_eq_setStage s
  rw [hv, State.setStage_stage, Vector.getElem_set_self]

/-- Execute keeps every slot but slot 1, record and value. -/
theorem execute_slot_other (s : State) {k : Fin 5} (hk : k ≠ 1) : (execute s).stage[k] = s.stage[k] := by
  obtain ⟨v, hv⟩ := execute_eq_setStage s
  have hne : 1 ≠ k.val := fun h => hk (Fin.ext h.symm)
  rw [hv, State.setStage_stage]
  exact Vector.getElem_set_ne _ k.isLt hne

theorem untouched_execute (s : State) : Untouched s (execute s) := by
  obtain ⟨v, hv⟩ := execute_eq_setStage s
  rw [hv]
  exact untouched_setStage s _

/-- Execute never reads memory: on another memory it takes the same case and writes the same sum. -/
theorem execute_setMem (s : State) (m : Memory) : execute (s.setMem m) = (execute s).setMem m := by
  rcases execute_cases s with ⟨e, he, hop, hx⟩ | ⟨hno, hx⟩
  · rw [hx, execute_of_addiu (s := s.setMem m) he hop]
    rfl
  · rw [hx, execute_of_not_addiu (s := s.setMem m) hno]

/-- Settles O22: execute is one write of slot 1's value, or nothing, and neither depends on memory. -/
theorem executeWritesOnlySlotOneValue : Obligations.ExecuteWritesOnlySlotOneValue := fun s =>
  ⟨execute_of_not_addiu, execute_slot1_instr s, fun _ => execute_slot_other s, execute_pc s,
    readGpr_execute s, execute_stall s, untouched_execute s, execute_setMem s⟩

end Sys2Proof.Machine
end

section
/-! The advance as a whole (41_pipeline.md R120, R121, R124, R125, R128, R130): its state and what it returns. -/

namespace Sys2Proof.Machine

/-- A non-stalled advance ends where the record's step ends, and returns the `pc` of that state (R130). -/
theorem advance_eq_issue {s : State} (h : s.stall = false) (r : InstrRecord) :
    advance r s = (issue r s, some (issue r s).pc) := by
  rw [issue_of_not_stall h, advance_of_not_stall h]

/-- The registers after a non-stalled advance are those its writeback left: no later part of it writes one. -/
theorem readGpr_issue {s : State} (h : s.stall = false) (r : InstrRecord) (k : RegIdx) :
    readGpr (issue r s) k = readGpr (retire s) k := by
  rw [issue_of_not_stall h, readGpr_execute, advancePc, readGpr_setPc, shiftIn, readGpr_setStage]

/-- The immediate of this hardware is zero-extended (30_encoding.md R84). -/
theorem immval_toNat (imm : Imm16) : (immval imm).toNat = imm.toNat :=
  BitVec.toNat_setWidth_of_le (b := imm) (by decide : 16 ≤ 32)

/-- No advance sets the stall flag: a stalled one clears it, and another found it clear. -/
theorem advance_stall (r : InstrRecord) (s : State) : (advance r s).1.stall = false := by
  cases hs : s.stall with
  | true => rw [advance_of_stall hs, State.setStall_stall]
  | false => rw [advance_eq_issue hs, (issue_enters hs r).stall, hs]

/-- The shift moves both fields of every slot one position on (R124). -/
theorem shiftIn_moves (r : InstrRecord) (s : State) (k : Fin 4) :
    (shiftIn r s).stage[k.succ] = s.stage[k.castSucc] := by
  match k with
  | 0 | 1 | 2 | 3 => rfl

/-- Settles O12: the stalled advance, the advance after it, and the flag after any. -/
theorem stalledAdvanceOnlyClearsStall : Obligations.StalledAdvanceOnlyClearsStall := by
  refine ⟨fun s hs => ⟨fun i => ?_, advance_of_stall hs, fun r => ?_⟩, advance_stall⟩
  · rw [exec_eq_issue, issue_of_stall hs]
    rfl
  · have hclear : (s.setStall false).stall = false := State.setStall_stall s false
    exact ⟨_, _, advance_eq_issue hclear r, congrArg Slot.instr (issue_enters hclear r).newest⟩

/-- Settles O21: the record that enters slot 1 computes on registers that only the writeback has changed. -/
theorem advanceExecutesAfterWriteback : Obligations.AdvanceExecutesAfterWriteback := by
  intro r e s hs he hop
  rw [advance_eq_issue hs]
  refine ⟨?_, readGpr_issue hs r⟩
  rw [(issue_enters hs r).computes e he hop, readGpr_issue hs, immval_toNat]

/-- Settles O19: the new record in slot 0, every other slot from the one before it. -/
theorem shiftMovesEverySlot : Obligations.ShiftMovesEverySlot := fun r s => ⟨rfl, shiftIn_moves r s⟩

/-- Settles O20: the two outcomes of an advance, by the stall flag. -/
theorem advanceReturnsUpdatedPc : Obligations.AdvanceReturnsUpdatedPc := by
  refine fun r s => ⟨fun hs => ?_, fun hs => ?_⟩
  · rw [advance_eq_issue hs]
    exact ⟨(issue_enters hs r).pc, rfl⟩
  · rw [advance_of_stall hs]

end Sys2Proof.Machine
end

section
/-! Words and instructions (30_encoding.md R80 to R90): the decoder and the encoder undo each other, the fields as
numbers, and the two rows of the opcode map that the statements name. -/

namespace Sys2Proof.Machine

/-- The opcode map gives every well-formed instruction back from its own fields; PASS_OP00 is the one row whose
word can belong to another row (log entry 8). -/
theorem decodeFields_fields {i : Instr} (h : i.wellFormed = true) :
    decodeFields i.opcode i.operands.1 i.operands.2.1 i.operands.2.2 = i := by
  cases i with
  | passOp00 rs rt imm => exact Laws.FieldsDecode.passOp00 rs rt imm h
  | _ => rfl

/-- Decoding the word of four fields is the opcode map on those fields. -/
theorem decodeWord_append (op : Opcode) (rs rt : RegIdx) (imm : Imm16) :
    decodeWord (op ++ rs ++ rt ++ imm) = decodeFields op rs rt imm := by
  rw [decodeWord, Laws.extract_opcode, Laws.extract_rs, Laws.extract_rt, Laws.extract_imm]

theorem decodeWord_encode {i : Instr} (h : i.wellFormed = true) : decodeWord (encode i) = i :=
  (decodeWord_append _ _ _ _).trans (decodeFields_fields h)

/-- The opcode map drops no bit of the word (R88). -/
theorem encode_decodeWord (w : Word) : encode (decodeWord w) = w := by
  rw [encode, decodeWord, Laws.decodeFields_opcode, Laws.decodeFields_operands, Laws.word_of_fields]

/-- A field of a word, as a number. -/
theorem toNat_field (w : Word) (start len : Nat) :
    (w.extractLsb' start len).toNat = w.toNat / 2 ^ start % 2 ^ len := by
  rw [BitVec.extractLsb'_toNat, Nat.shiftRight_eq_div_pow]

/-- The `rd` field of a record made from fields is the high part of its immediate (R82). -/
theorem recordOf_rd_toNat (op : Opcode) (rs rt : RegIdx) (imm : Imm16) :
    (recordOf op rs rt imm).rd.toNat = imm.toNat / 2 ^ 11 := by
  have hlt := imm.isLt
  rw [recordOf, BitVec.extractLsb'_toNat, Nat.shiftRight_eq_div_pow]
  omega

/-- The opcode of an instruction is 9 exactly when the instruction is ADDIU (R86). -/
theorem opcode_eq_nine_iff {i : Instr} : i.opcode = 9 ↔ ∃ rs rt imm, i = .addiu rs rt imm := by
  cases i with
  | addiu rs rt imm => exact ⟨fun _ => ⟨rs, rt, imm, rfl⟩, fun _ => rfl⟩
  | _ => simp [Instr.opcode]

/-- The word 0 is the word of NOP (R87). -/
theorem decodeWord_eq_nop_iff {w : Word} : decodeWord w = .nop ↔ w = 0 := by
  constructor
  · intro h
    rw [← encode_decodeWord w, h]
    rfl
  · rintro rfl
    exact decodeWord_encode (i := .nop) rfl

/-- Settles O4: the fields of the word are those of the instruction, and the opcode map gives it back. -/
theorem decodeOfEncode : Obligations.DecodeOfEncode := fun _ => decodeWord_encode

/-- Settles O5: the opcode map keeps the opcode and the operands, which make up the word. -/
theorem encodeOfDecode : Obligations.EncodeOfDecode := fun w =>
  ⟨Laws.decodeFields_wellFormed _ _ _ _, encode_decodeWord w⟩

/-- Settles O6: each field by its position, and the two overlaps by arithmetic. -/
theorem decodedRecordFields : Obligations.DecodedRecordFields := by
  intro w
  have hlt := w.isLt
  refine ⟨decodeWord_record w, ?_⟩
  simp only [decodeRecord, toNat_field, true_and]
  omega

/-- Settles O7: ADDIU by its opcode, NOP by its whole word. -/
theorem opcodeMapClasses : Obligations.OpcodeMapClasses := by
  intro w
  have hlt := w.isLt
  refine ⟨?_, decodeWord_eq_nop_iff⟩
  rw [← opcode_eq_nine_iff, decodeWord, Laws.decodeFields_opcode, ← BitVec.toNat_inj, toNat_field]
  simp only [BitVec.ofNat_eq_ofNat, BitVec.toNat_ofNat]
  omega

/-- Settles O3: each word is the word of the instruction written beside it. -/
theorem writtenWordsDecode : Obligations.WrittenWordsDecode :=
  ⟨decodeWord_encode (i := .nop) rfl, decodeWord_encode (i := .addiu 1 2 0x1805) rfl,
    decodeWord_encode (i := .addiu 31 0 0xF801) rfl, decodeWord_encode (i := .passOp00 0 0 0x0820) rfl,
    decodeWord_encode (i := .passOp02 0 0 0xF800) rfl, decodeWord_encode (i := .passOp08 0 0 0x0001) rfl,
    decodeWord_encode (i := .passOp10 16 0 0x0018) rfl, decodeWord_encode (i := .passOp23 1 2 0x0000) rfl,
    decodeWord_encode (i := .passOp2B 1 2 0x1800) rfl,
    decodeWord_encode (i := .passOp3F 31 31 0xFFFF) rfl⟩

/-- Settles O8: four bytes are one word, and the decoder has no arm for fewer. -/
theorem fourBytesDecode : Obligations.FourBytesDecode := by
  refine ⟨fun b0 b1 b2 b3 rest => ?_, fun bytes hlen => ?_⟩
  · rw [decodeBytes, wordOfBytes_eq_ofNat]
  · match bytes, hlen with
    | [], _ | [_], _ | [_, _], _ | [_, _, _], _ => rfl

end Sys2Proof.Machine
end

section
/-! What one advance makes of a slot: the value it gets in slot 1 (41_pipeline.md R128, R129) and the register it
writes when it retires (R123), each as a function of the slot; and the frame of an instruction. -/

namespace Sys2Proof.Machine

/-- A slot as execute leaves it, when the registers read as `g` (R128, R129). -/
def Slot.executed (c : Slot) (g : RegIdx → Word) : Slot :=
  match c.instr with
  | none => c
  | some e =>
    if e.opcode = 9 then { instr := some e, value := mask32 ((g e.rs).toNat + e.imm.toNat) } else c

/-- What `gpr[k]` holds after the slot retired, when it held `v` before (R123). -/
def Slot.writeback (c : Slot) (k : RegIdx) (v : Word) : Word :=
  match c.instr with
  | none => v
  | some r => if r.rd = k ∧ k ≠ 0 then c.value else v

/-- The slot holds no record whose destination is `x`. -/
def Slot.Spares (c : Slot) (x : RegIdx) : Prop := ∀ r, c.instr = some r → r.rd ≠ x

theorem Slot.executed_of_instr {c : Slot} {e : InstrRecord} (h : c.instr = some e) (g : RegIdx → Word) :
    c.executed g =
      if e.opcode = 9 then { instr := some e, value := mask32 ((g e.rs).toNat + e.imm.toNat) } else c := by
  rw [Slot.executed, h]

theorem Slot.writeback_of_instr {c : Slot} {r : InstrRecord} (h : c.instr = some r) (k : RegIdx) (v : Word) :
    c.writeback k v = if r.rd = k ∧ k ≠ 0 then c.value else v := by
  rw [Slot.writeback, h]

theorem Slot.writeback_of_spares {c : Slot} {x : RegIdx} (h : c.Spares x) (v : Word) : c.writeback x v = v := by
  cases hi : c.instr with
  | none => rw [Slot.writeback, hi]
  | some r => rw [Slot.writeback_of_instr hi, if_neg fun hc => h r hi hc.1]

/-- Whether a slot spares a register is read off its record. -/
theorem Slot.spares_of_instr {c : Slot} {x : RegIdx} {r : InstrRecord} (h : c.instr = some r) (hr : r.rd ≠ x) :
    c.Spares x := by
  intro r' hr'
  obtain rfl : r = r' := Option.some.inj (h.symm.trans hr')
  exact hr

theorem Slot.Spares.of_instr_eq {c c' : Slot} {x : RegIdx} (hc : c.Spares x) (h : c'.instr = c.instr) :
    c'.Spares x := fun r hr => hc r (h.symm.trans hr)

/-- No slot writes register 0 (decision D33). -/
theorem Slot.writeback_zero (c : Slot) (v : Word) : c.writeback 0 v = v := by
  cases hi : c.instr with
  | none => rw [Slot.writeback, hi]
  | some r => rw [Slot.writeback_of_instr hi, if_neg fun hc => hc.2 rfl]

/-- The registers after a slot retired, as one equation. -/
theorem Retired.readGpr_eq {old : Slot} {s t : State} (h : Retired old s t) (k : RegIdx) :
    readGpr t k = old.writeback k (readGpr s k) := by
  cases hi : old.instr with
  | none =>
    rw [Slot.writeback, hi]
    exact h.kept k fun r hr => absurd (hi.symm.trans hr) nofun
  | some r =>
    rw [Slot.writeback_of_instr hi]
    by_cases hw : r.rd = k ∧ k ≠ 0
    · obtain ⟨rfl, hne⟩ := hw
      rw [if_pos ⟨rfl, hne⟩, h.written r hi hne]
    · rw [if_neg hw]
      refine h.kept k fun r' hr' hrd => not_not.mp fun hne => hw ⟨?_, hne⟩
      obtain rfl : r = r' := Option.some.inj (hi.symm.trans hr')
      exact hrd

/-- Slot 1 after an advance: the slot before it, executed on the registers as the writeback left them. -/
theorem Enters.slot1_eq {r : InstrRecord} {s t : State} (h : Enters r s t) :
    t.stage[1] = s.stage[0].executed (readGpr t) := by
  cases hi : s.stage[0].instr with
  | none =>
    rw [Slot.executed, hi]
    exact h.passes fun e he => absurd (hi.symm.trans he) nofun
  | some e =>
    rw [Slot.executed_of_instr hi]
    by_cases hop : e.opcode = 9
    · rw [if_pos hop, h.computes e hi hop]
    · rw [if_neg hop]
      refine h.passes fun e' he' => ?_
      obtain rfl : e = e' := Option.some.inj (hi.symm.trans he')
      exact hop

/-- The registers after an advance: the oldest slot retired. -/
theorem Enters.readGpr_eq {r : InstrRecord} {s t : State} (h : Enters r s t) (k : RegIdx) :
    readGpr t k = s.stage[4].writeback k (readGpr s k) := h.retired.readGpr_eq k

/-- No record leaves the stall flag set in its own step. -/
@[simp] theorem issue_stall (r : InstrRecord) (s : State) : (issue r s).stall = false := by
  cases hs : s.stall with
  | false => rw [(issue_enters hs r).stall, hs]
  | true => rw [issue_of_stall hs, State.setStall_stall]

/-- The stall flag is not among what no instruction touches. -/
theorem untouched_setStall (s : State) (b : Bool) : Untouched s (s.setStall b) :=
  ⟨⟨rfl, rfl, fun _ => rfl, rfl, rfl, rfl, rfl, rfl⟩, ⟨rfl, fun _ => rfl, rfl, rfl, rfl⟩, rfl, rfl, rfl⟩

/-- The frame of a record's own step, stalled or not. -/
theorem untouched_issue (r : InstrRecord) (s : State) : Untouched s (issue r s) := by
  cases hs : s.stall with
  | false => exact (issue_enters hs r).untouched
  | true => rw [issue_of_stall hs]; exact untouched_setStall s false

/-- A record's own step leaves register 0, stalled or not. -/
@[simp] theorem readGpr_zero_issue (r : InstrRecord) (s : State) : readGpr (issue r s) 0 = readGpr s 0 := by
  cases hs : s.stall with
  | false => rw [(issue_enters hs r).readGpr_eq, Slot.writeback_zero]
  | true => rw [issue_of_stall hs]; rfl

/-- Not stalled, an instruction completes and its record enters. -/
theorem exec_enters (i : Instr) {s : State} (hs : s.stall = false) :
    ∃ t, exec i s = .next t ∧ Enters i.record s t :=
  ⟨_, exec_eq_issue i s, issue_enters hs i.record⟩

/-- Settles O9: the record is the one that `decode` makes of the word. -/
theorem addiuEntersPipeline : Obligations.AddiuEntersPipeline := by
  intro rs rt imm s hs
  rw [Laws.decodeRecord_append]
  exact exec_enters (.addiu rs rt imm) hs

/-- Settles O10: the record is the one that `decode` makes of the instruction's word. -/
theorem passThroughEntersPipeline : Obligations.PassThroughEntersPipeline := by
  intro i s _ _ hs
  rw [Laws.decodeRecord_encode]
  exact exec_enters i hs

/-- Settles O11: every field of NOP's record is 0. -/
theorem nopEntersPipeline : Obligations.NopEntersPipeline := fun _ hs => exec_enters .nop hs

/-- Settles O16: the two outcomes of an instruction's own step, by the stall flag. -/
theorem everyInstructionFrame : Obligations.EveryInstructionFrame := by
  intro i s t h
  rcases exec_cases h with ⟨hs, hent⟩ | ⟨hs, rfl⟩
  · exact ⟨hent.untouched, hent.stall.trans hs, fun hs' => absurd (hs.symm.trans hs') nofun,
      fun _ => ⟨hent.pc, hent.retired⟩⟩
  · exact ⟨untouched_setStall s false, State.setStall_stall s false, fun _ => ⟨rfl, rfl, fun _ => rfl⟩,
      fun hs' => absurd (hs.symm.trans hs') nofun⟩

/-- Settles O18: a bubble writes nothing, and a record writes where its `rd` and the guard let it. -/
theorem writebackUnderBothGuards : Obligations.WritebackUnderBothGuards := by
  intro guard old s k
  cases hi : old.instr with
  | none => simp only [writebackWith, hi]
  | some r =>
    simp only [writebackWith, hi]
    by_cases hw : r.rd ≠ 0 ∨ guard = false
    · rw [if_pos hw, readGpr_writeGpr]
      refine if_congr ⟨fun hrd => ⟨hrd, hrd ▸ hw⟩, fun hrd => hrd.1⟩ rfl rfl
    · rw [if_neg hw, if_neg]
      rintro ⟨rfl, hk⟩
      exact hw hk

/-- Zero extension keeps the number (00_scope.md R14). -/
theorem zext32_eq_mask32 (imm : Imm16) : zext32 imm = mask32 imm.toNat := by
  apply BitVec.eq_of_toNat_eq
  have hlt := imm.isLt
  simp only [zext32, mask32, BitVec.toNat_setWidth, BitVec.toNat_ofInt]
  omega

/-- Settles O23: this hardware zero-extends; sign extension keeps the integer. -/
theorem immediateUnderBothSettings : Obligations.ImmediateUnderBothSettings := fun imm =>
  ⟨zext32_eq_mask32 imm, zext32_eq_mask32 imm, rfl⟩

end Sys2Proof.Machine
end

section
/-! One instruction through all its advances (41_pipeline.md R131; 42_instructions.md R140 to R142), and what
another instruction sees of it (70_reset_and_hazards.md R190, R191). -/

namespace Sys2Proof.Machine

/-- The state after the records of a list entered one after the other. -/
def issueAll (is : List Instr) (s : State) : State := is.foldl (fun t i => issue i.record t) s

theorem issueAll_cons (i : Instr) (is : List Instr) (s : State) :
    issueAll (i :: is) s = issueAll is (issue i.record s) := rfl

theorem issueAll_append (is js : List Instr) (s : State) :
    issueAll (is ++ js) s = issueAll js (issueAll is s) := List.foldl_append

/-- Instructions in a row are their records in a row, and they all complete. -/
theorem execAll_eq_issueAll (is : List Instr) (s : State) : execAll is s = .next (issueAll is s) := by
  induction is generalizing s with
  | nil => rfl
  | cons i is ih => rw [execAll, exec_eq_issue, issueAll_cons, ← ih]

theorem issueAll_stall {s : State} (hs : s.stall = false) (is : List Instr) : (issueAll is s).stall = false := by
  induction is generalizing s with
  | nil => exact hs
  | cons i is ih => exact ih (issue_stall i.record s)

/-- The slot of an instruction after the first advance behind its entry: ADDIU has its sum, any other 0 (R131). -/
theorem issueAll_two_slot1 {s : State} (hs : s.stall = false) (i j : Instr) :
    (issueAll [i, j] s).stage[1] =
      { instr := some i.record
        value := if i.record.opcode = 9 then
          mask32 ((readGpr (issueAll [i, j] s) i.record.rs).toNat + i.record.imm.toNat) else 0 } := by
  have hnew := (issue_enters hs i.record).newest
  have hslot := (issue_enters (issue_stall i.record s) j.record).slot1_eq
  rw [hnew, Slot.executed_of_instr rfl] at hslot
  refine hslot.trans ?_
  by_cases hop : i.record.opcode = 9
  · rw [if_pos hop, if_pos hop]
    rfl
  · rw [if_neg hop, if_neg hop]

/-- Three advances take slot 1 to slot 4 (R124). -/
theorem issueAll_three_slot4 {s : State} (hs : s.stall = false) (a b c : Instr) :
    (issueAll [a, b, c] s).stage[4] = s.stage[1] := by
  have ha := issue_enters hs a.record
  have hb := issue_enters (issue_stall a.record s) b.record
  have hc := issue_enters (issue_stall b.record (issue a.record s)) c.record
  exact hc.moved4.trans (hb.moved3.trans ha.moved2)

/-- The fourth advance from slot 1 on retires the slot (R123). -/
theorem readGpr_fourth_issue {s : State} (hs : s.stall = false) (a b c d : Instr) (k : RegIdx) :
    readGpr (issue d.record (issueAll [a, b, c] s)) k =
      s.stage[1].writeback k (readGpr (issueAll [a, b, c] s) k) := by
  rw [(issue_enters (issueAll_stall hs [a, b, c]) d.record).readGpr_eq, issueAll_three_slot4 hs]

/-- The destination of an instruction, from its word (30_encoding.md R81). -/
theorem record_rd_eq_iff (i : Instr) (k : RegIdx) :
    i.record.rd = k ↔ k.toNat = (encode i).toNat / 2 ^ 11 % 2 ^ 5 := by
  rw [← Laws.decodeRecord_encode, ← BitVec.toNat_inj, decodeRecord, toNat_field, eq_comm]

/-- The destination of ADDIU, from its immediate (30_encoding.md R82; 42_instructions.md R140). -/
theorem addiu_rd_eq_iff (rs rt : RegIdx) (imm : Imm16) (k : RegIdx) :
    (Instr.addiu rs rt imm).record.rd = k ↔ k.toNat = imm.toNat / 2 ^ 11 := by
  rw [← BitVec.toNat_inj, Instr.record, recordOf_rd_toNat, eq_comm]
  rfl

theorem record_opcode_ne_nine {i : Instr} (h : ∀ rs rt imm, i ≠ .addiu rs rt imm) : i.record.opcode ≠ 9 := by
  intro hop
  obtain ⟨rs, rt, imm, hi⟩ := opcode_eq_nine_iff.mp hop
  exact h rs rt imm hi

/-- ADDIU's slot holds its sum after the first advance behind its entry. -/
theorem addiu_slot1 {s : State} (hs : s.stall = false) (rs rt : RegIdx) (imm : Imm16) (j : Instr) :
    (issueAll [.addiu rs rt imm, j] s).stage[1] =
      { instr := some (Instr.addiu rs rt imm).record
        value := mask32 ((readGpr (issueAll [.addiu rs rt imm, j] s) rs).toNat + imm.toNat) } :=
  issueAll_two_slot1 hs (.addiu rs rt imm) j

/-- A pass-through slot still holds 0 after it. -/
theorem passThrough_slot1 {s : State} (hs : s.stall = false) {i : Instr} (hi : ∀ rs rt imm, i ≠ .addiu rs rt imm)
    (j : Instr) : (issueAll [i, j] s).stage[1] = { instr := some i.record, value := 0 } := by
  rw [issueAll_two_slot1 hs, if_neg (record_opcode_ne_nine hi)]

/-- Settles O13: the sum in slot 1, and the slot's writeback four advances later. -/
theorem addiuWritesSumAtFifthAdvance : Obligations.AddiuWritesSumAtFifthAdvance := by
  intro rs rt imm j1 j2 j3 j4 j5 s hs
  have hslot := addiu_slot1 hs rs rt imm j1
  have hs2 := issueAll_stall hs [.addiu rs rt imm, j1]
  refine ⟨_, _, _, _, exec_eq_issue _ _, exec_eq_issue _ _, execAll_eq_issueAll _ _, exec_eq_issue _ _,
    congrArg Slot.value hslot, fun k => ?_⟩
  refine (readGpr_fourth_issue hs2 j2 j3 j4 j5 k).trans ?_
  rw [hslot, Slot.writeback_of_instr rfl]
  exact if_congr (and_congr_left' (addiu_rd_eq_iff rs rt imm k)) rfl rfl

/-- Settles O14: the 0 in slot 1, and the slot's writeback four advances later. -/
theorem passThroughClearsAtFifthAdvance : Obligations.PassThroughClearsAtFifthAdvance := by
  intro i j1 j2 j3 j4 j5 s hi hs
  have hslot := passThrough_slot1 hs hi j1
  have hs2 := issueAll_stall hs [i, j1]
  refine ⟨_, _, _, _, exec_eq_issue _ _, exec_eq_issue _ _, execAll_eq_issueAll _ _, exec_eq_issue _ _,
    congrArg Slot.value hslot, fun k => ?_⟩
  refine (readGpr_fourth_issue hs2 j2 j3 j4 j5 k).trans ?_
  rw [hslot, Slot.writeback_of_instr rfl]
  exact if_congr (and_congr_left' (record_rd_eq_iff i k)) rfl rfl

/-- Settles O15: NOP's destination is register 0, which no slot writes. -/
theorem nopRetiresWithoutEffect : Obligations.NopRetiresWithoutEffect := by
  intro j1 j2 j3 j4 j5 s hs
  have hslot := passThrough_slot1 (i := .nop) hs nofun j1
  have hs2 := issueAll_stall hs [.nop, j1]
  refine ⟨_, _, execAll_eq_issueAll _ _, exec_eq_issue _ _, fun k => ?_⟩
  refine (readGpr_fourth_issue hs2 j2 j3 j4 j5 k).trans ?_
  rw [hslot, Slot.writeback_of_instr rfl, if_neg]
  · rfl
  · rintro ⟨rfl, hne⟩
    exact hne rfl

/-- Settles O26: the ADDIU retires one advance before the pass-through instruction, each as O13 and O14 have it. -/
theorem laterWriterRemains : Obligations.LaterWriterRemains := by
  intro rs rt x imm i j1 j2 j3 j4 j5 s hs hx himm hi hrd
  have hs2 := issue_stall (Instr.addiu rs rt imm).record s
  have hsum := readGpr_fourth_issue (issueAll_stall hs [.addiu rs rt imm, i]) j1 j2 j3 j4 x
  have hclear := readGpr_fourth_issue (issueAll_stall hs2 [i, j1]) j2 j3 j4 j5 x
  rw [addiu_slot1 hs, Slot.writeback_of_instr rfl, if_pos ⟨(addiu_rd_eq_iff rs rt imm x).mpr himm, hx⟩] at hsum
  rw [passThrough_slot1 hs2 hi, Slot.writeback_of_instr rfl, if_pos ⟨hrd, hx⟩] at hclear
  exact ⟨_, _, _, exec_eq_issue _ _, execAll_eq_issueAll _ _, exec_eq_issue _ _,
    ⟨_, exec_eq_issue _ _, hsum⟩, hclear⟩

/-- `gpr[x]` will hold `v` two advances on: no slot that is younger than slot 3 writes it. -/
structure Settles (x : RegIdx) (v : Word) (s : State) : Prop where
  stall : s.stall = false
  slot0 : s.stage[0].Spares x
  slot1 : s.stage[1].Spares x
  slot2 : s.stage[2].Spares x
  due : s.stage[3].writeback x (s.stage[4].writeback x (readGpr s x)) = v

/-- The entry of a record that does not write `x` takes nothing away from what `gpr[x]` is about to hold. -/
theorem Settles.issue {x : RegIdx} {v : Word} {s : State} (h : Settles x v s) {r : InstrRecord} (hr : r.rd ≠ x) :
    Settles x v (issue r s) := by
  have hent := issue_enters h.stall r
  refine ⟨issue_stall r s, ?_, ?_, ?_, ?_⟩
  · exact Slot.spares_of_instr (congrArg Slot.instr hent.newest) hr
  · exact h.slot0.of_instr_eq hent.slot1_instr
  · exact h.slot1.of_instr_eq (congrArg Slot.instr hent.moved2)
  · rw [hent.moved3, hent.moved4, hent.readGpr_eq, Slot.writeback_of_spares h.slot2, h.due]

theorem Settles.issueAll {x : RegIdx} {v : Word} {s : State} (h : Settles x v s) {is : List Instr}
    (his : ∀ i ∈ is, i.record.rd ≠ x) : Settles x v (issueAll is s) := by
  induction is generalizing s with
  | nil => exact h
  | cons i is ih =>
    exact ih (h.issue (his i List.mem_cons_self)) fun j hj => his j (List.mem_cons_of_mem _ hj)

/-- Two advances on, whatever enters, the register holds what was due. -/
theorem Settles.readGpr_two {x : RegIdx} {v : Word} {s : State} (h : Settles x v s) (i j : Instr) :
    readGpr (Machine.issueAll [i, j] s) x = v := by
  have hi := issue_enters h.stall i.record
  have hj := issue_enters (issue_stall i.record s) j.record
  refine (hj.readGpr_eq x).trans ?_
  rw [hi.moved4, hi.readGpr_eq, h.due]

/-- Two advances take a record from slot 1 to slot 3, and where no younger one writes its destination only it
decides what that register is about to hold. -/
theorem settles_of_slot1 {s : State} (hs : s.stall = false) {x : RegIdx} (hx : x ≠ 0) {r : InstrRecord} {v : Word}
    (hslot : s.stage[1] = { instr := some r, value := v }) (hr : r.rd = x) (h0 : s.stage[0].Spares x)
    {a b : Instr} (ha : a.record.rd ≠ x) (hb : b.record.rd ≠ x) : Settles x v (issueAll [a, b] s) := by
  have hentA := issue_enters hs a.record
  have hentB := issue_enters (issue_stall a.record s) b.record
  have hslot3 : (issueAll [a, b] s).stage[3] = { instr := some r, value := v } :=
    hentB.moved3.trans (hentA.moved2.trans hslot)
  refine ⟨issueAll_stall hs [a, b], ?_, ?_, ?_, ?_⟩
  · exact Slot.spares_of_instr (congrArg Slot.instr hentB.newest) hb
  · exact Slot.spares_of_instr (hentB.slot1_instr.trans (congrArg Slot.instr hentA.newest)) ha
  · exact h0.of_instr_eq ((congrArg Slot.instr hentB.moved2).trans hentA.slot1_instr)
  · rw [hslot3, Slot.writeback_of_instr rfl, if_pos ⟨hr, hx⟩]

/-- Settles O24: the producer is in slot 3 after the first two of `js`, and two more advances than the rest of
them bring its value into the register that the consumer reads. -/
theorem consumerAtDistanceFourSeesResult : Obligations.ConsumerAtDistanceFourSeesResult := by
  intro p j1 j js rt x imm s hs hx hp hlen h1 hjs
  match js, hlen, hjs with
  | a :: b :: rest, _, hjs =>
    have hs2 := issueAll_stall hs [p, j1]
    have hslot := issueAll_two_slot1 hs p j1
    have h0 : (issueAll [p, j1] s).stage[0].Spares x := Slot.spares_of_instr
      (congrArg Slot.instr (issue_enters (issue_stall p.record s) j1.record).newest) h1
    have hset := settles_of_slot1 hs2 hx hslot hp h0 (hjs a (by simp)) (hjs b (by simp))
    have hrest := hset.issueAll (is := rest) fun i hi => hjs i (by simp [hi])
    have hread := hrest.readGpr_two (.addiu x rt imm) j
    refine ⟨_, _, _, execAll_eq_issueAll _ _, execAll_eq_issueAll _ _, exec_eq_issue _ _, hslot, ?_⟩
    rw [issueAll_append]
    refine (congrArg Slot.value (addiu_slot1 hrest.stall x rt imm j)).trans ?_
    rw [hread, hslot]

/-- Two states agree on the registers and on the slots from slot `n` on; neither is stalled. -/
structure AgreeFrom (n : Nat) (s t : State) : Prop where
  stallLeft : s.stall = false
  stallRight : t.stall = false
  regs : readGpr s = readGpr t
  slots : ∀ (k : Nat) (hk : k < 5), n ≤ k → s.stage[k] = t.stage[k]

/-- Whatever enters the two, they go on to agree, but for one slot more; no slot up to slot 3 is seen. -/
theorem AgreeFrom.issue {n : Nat} {s t : State} (h : AgreeFrom n s t) (hn : n ≤ 4) (r r' : InstrRecord) :
    AgreeFrom (n + 1) (issue r s) (issue r' t) := by
  have hentS := issue_enters h.stallLeft r
  have hentT := issue_enters h.stallRight r'
  have hregs : readGpr (Machine.issue r s) = readGpr (Machine.issue r' t) := by
    funext k
    rw [hentS.readGpr_eq, hentT.readGpr_eq, h.regs, h.slots 4 (by decide) hn]
  refine ⟨issue_stall r s, issue_stall r' t, hregs, fun k hk hnk => ?_⟩
  match k, hk, hnk with
  | 0, _, hnk => omega
  | 1, _, hnk => rw [hentS.slot1_eq, hentT.slot1_eq, hregs, h.slots 0 (by decide) (by omega)]
  | 2, _, hnk => rw [hentS.moved2, hentT.moved2, h.slots 1 (by decide) (by omega)]
  | 3, _, hnk => rw [hentS.moved3, hentT.moved3, h.slots 2 (by decide) (by omega)]
  | 4, _, hnk => rw [hentS.moved4, hentT.moved4, h.slots 3 (by decide) (by omega)]

theorem AgreeFrom.issueAll {n : Nat} {s t : State} (h : AgreeFrom n s t) (is : List Instr)
    (hn : n + is.length ≤ 5) : AgreeFrom (n + is.length) (issueAll is s) (issueAll is t) := by
  induction is generalizing n s t with
  | nil => exact h
  | cons i is ih =>
    simp only [List.length_cons] at hn ⊢
    have hstep := h.issue (by omega) i.record i.record
    have hrest := ih hstep (by omega)
    rwa [show n + 1 + is.length = n + (is.length + 1) by omega] at hrest

/-- Settles O25: the two producers are still in flight when the consumer has executed, so the registers agree. -/
theorem consumerBelowDistanceFourIgnoresProducer : Obligations.ConsumerBelowDistanceFourIgnoresProducer := by
  intro p p' j js rs rt imm s hs hlen
  have hself : AgreeFrom 0 s s := ⟨hs, hs, rfl, fun _ _ _ => rfl⟩
  have hagree := (hself.issue (by decide) p.record p'.record).issueAll (js ++ [.addiu rs rt imm, j])
    (by simp only [List.length_append, List.length_cons, List.length_nil]; omega)
  rw [issueAll_append, issueAll_append] at hagree
  have hvalue : ∀ q : Instr, (issueAll [.addiu rs rt imm, j] (issueAll (q :: js) s)).stage[1].value =
      mask32 ((readGpr (issueAll [.addiu rs rt imm, j] (issueAll (q :: js) s)) rs).toNat + imm.toNat) := fun q =>
    congrArg Slot.value (addiu_slot1 (issueAll_stall hs (q :: js)) rs rt imm j)
  have hreg := congrFun hagree.regs rs
  refine ⟨_, _, _, _, execAll_eq_issueAll _ _, exec_eq_issue _ _, execAll_eq_issueAll _ _, exec_eq_issue _ _, ?_⟩
  rw [issueAll_append, issueAll_append]
  refine ⟨hvalue p, ?_, hreg⟩
  refine (hvalue p).trans (Eq.trans ?_ (hvalue p').symm)
  exact congrArg (fun g : Word => mask32 (g.toNat + imm.toNat)) hreg

end Sys2Proof.Machine
end

section
/-! Memory and bus (20_memory.md R51 to R63): the canonical form, the image that `load_rom` copies, aligned
addresses, and the host's accesses. -/

namespace Sys2Proof.Machine

/-- A word write keeps memory well-formed. -/
theorem memWrite_wf {m : Memory} (h : m.wf = true) (a v : Word) : (memWrite m a v).wf = true := by
  rw [memWrite_eq_memWriteByte]
  exact memWriteByte_wf (memWriteByte_wf (memWriteByte_wf (memWriteByte_wf h (memOffset_lt a) _)
    (wordByteOffset_lt a 1) _) (wordByteOffset_lt a 2) _) (wordByteOffset_lt a 3) _

/-- Loading an image keeps memory well-formed. -/
theorem loadBytesFrom_wf {m : Memory} (h : m.wf = true) (i : Nat) (bytes : List Byte) :
    (loadBytesFrom i bytes m).wf = true := by
  induction bytes generalizing i m with
  | nil => exact h
  | cons b rest ih => exact ih (memWriteByte_wf h (mod_memSize_lt i) b) (i + 1)

/-- The four bytes of a word make up the word. -/
theorem wordOfBytes_byteOfWord (v : Word) :
    wordOfBytes (byteOfWord v 0) (byteOfWord v 1) (byteOfWord v 2) (byteOfWord v 3) = v := by
  have hlt := v.isLt
  rw [wordOfBytes_eq_ofNat]
  apply BitVec.eq_of_toNat_eq
  simp only [byteOfWord_eq_ofNat, BitVec.toNat_ofNat]
  omega

/-- A word read back is the word written. -/
theorem memRead_memWrite {m : Memory} (h : m.wf = true) (a v : Word) : memRead (memWrite m a v) a = v := by
  rw [memRead_eq_wordOfBytes, ← wordByteOffset_zero, memReadByte_memWrite_wordByteOffset h a v (by decide),
    memReadByte_memWrite_wordByteOffset h a v (by decide), memReadByte_memWrite_wordByteOffset h a v (by decide),
    memReadByte_memWrite_wordByteOffset h a v (by decide), wordOfBytes_byteOfWord]

/-- The address mask keeps the low 29 bits, which hold every offset (R59). -/
theorem memOffset_eq_mod (a : Word) : memOffset a = a.toNat % Config.memSize := by
  have hmask : (a &&& Config.addrMask).toNat = a.toNat % 2 ^ 29 := by
    rw [BitVec.toNat_and, ← Nat.and_two_pow_sub_one_eq_mod]
    rfl
  rw [memOffset, hmask, Config.memSize]
  omega

/-- The cell at the head of a canonical list is what its offset reads as, and that is not the unlisted value; so a
list that starts higher reads otherwise. -/
theorem memReadByte_head_ne {o : Nat} {b : Byte} {m m' : Memory} (hb : b ≠ Config.memInit)
    (hm' : memCanonicalFrom (o + 1) m' = true) : memReadByte ((o, b) :: m) o ≠ memReadByte m' o := by
  rw [memReadByte_below hm' (Nat.lt_succ_self o), memReadByte, if_pos rfl]
  exact hb

/-- Canonical lists that read alike are equal: their heads must be the same cell. -/
theorem memory_ext {lo : Nat} {m m' : Memory} (h : memCanonicalFrom lo m = true)
    (h' : memCanonicalFrom lo m' = true) (hread : ∀ o, memReadByte m o = memReadByte m' o) : m = m' := by
  induction m generalizing lo m' with
  | nil =>
    match m', h' with
    | [], _ => rfl
    | (o', b') :: rest', h' =>
      obtain ⟨_, _, hb', _⟩ := memCanonicalFrom_cons.mp h'
      exact absurd (hread o').symm (memReadByte_head_ne (m' := []) hb' rfl)
  | cons c rest ih =>
    obtain ⟨o, b⟩ := c
    obtain ⟨hlo, hsize, hb, hrest⟩ := memCanonicalFrom_cons.mp h
    match m', h' with
    | [], _ => exact absurd (hread o) (memReadByte_head_ne (m' := []) hb rfl)
    | (o', b') :: rest', h' =>
      obtain ⟨hlo', hsize', hb', hrest'⟩ := memCanonicalFrom_cons.mp h'
      rcases Nat.lt_trichotomy o o' with hlt | rfl | hgt
      · refine absurd (hread o) (memReadByte_head_ne hb (memCanonicalFrom_cons.mpr ⟨hlt, hsize', hb', hrest'⟩))
      · have hbb : b = b' := by simpa only [memReadByte, if_true] using hread o
        refine congrArg₂ List.cons (congrArg (Prod.mk o) hbb) (ih hrest hrest' fun p => ?_)
        by_cases hp : p = o
        · rw [hp, memReadByte_below hrest (Nat.lt_succ_self o), memReadByte_below hrest' (Nat.lt_succ_self o)]
        · simpa only [memReadByte, if_neg hp] using hread p
      · refine absurd (hread o').symm (memReadByte_head_ne hb' (memCanonicalFrom_cons.mpr ⟨hgt, hsize, hb, hrest⟩))

/-- An offset that no index of the image reaches keeps its byte (R63). -/
theorem memReadByte_loadBytesFrom_other {m : Memory} (h : m.wf = true) (i : Nat) (bytes : List Byte) {o : Nat}
    (ho : ∀ j < bytes.length, (i + j) % Config.memSize ≠ o) :
    memReadByte (loadBytesFrom i bytes m) o = memReadByte m o := by
  induction bytes generalizing i m with
  | nil => rfl
  | cons b rest ih =>
    have hrest : ∀ j < rest.length, (i + 1 + j) % Config.memSize ≠ o := fun j hj => by
      rw [Nat.add_assoc, Nat.add_comm 1 j]
      exact ho (j + 1) (by rw [List.length_cons]; omega)
    rw [loadBytesFrom, ih (memWriteByte_wf h (mod_memSize_lt i) b) (i + 1) hrest]
    exact memReadByte_memWriteByte_other h (fun hc => ho 0 (Nat.succ_pos _) hc.symm) b

/-- An offset holds the last byte of the image whose index reaches it: no index fewer than the size further on does
so again (R63). -/
theorem memReadByte_loadBytesFrom_last {m : Memory} (h : m.wf = true) (i : Nat) {bytes : List Byte} {j : Nat}
    {b : Byte} (hj : bytes[j]? = some b) (hlast : bytes.length ≤ j + Config.memSize) :
    memReadByte (loadBytesFrom i bytes m) ((i + j) % Config.memSize) = b := by
  induction bytes generalizing i j m with
  | nil => cases hj
  | cons b' rest ih =>
    have hm := memWriteByte_wf h (mod_memSize_lt i) b'
    rw [List.length_cons] at hlast
    cases j with
    | zero =>
      obtain rfl : b' = b := Option.some.inj hj
      have hrest : ∀ j < rest.length, (i + 1 + j) % Config.memSize ≠ i % Config.memSize := fun j hj => by
        simp only [Config.memSize] at hlast ⊢
        omega
      exact (memReadByte_loadBytesFrom_other hm (i + 1) rest hrest).trans (memReadByte_memWriteByte_same h _ _)
    | succ j =>
      have hrest := ih hm (i + 1) (j := j) hj (by omega)
      rwa [Nat.add_assoc, Nat.add_comm 1 j] at hrest

/-- Registering one more device, for any lookup (R51). -/
theorem lookup_registerDevice (s : State) (base : Word) (size : Nat) (dev : Device) (A : Word) :
    lookup (registerDevice base size dev s).busmap A =
      if A.toNat % 4 = 0 ∧ base.toNat ≤ A.toNat ∧ A.toNat < base.toNat + size then some dev
      else lookup s.busmap A := by
  rw [registerDevice, State.setBusmap_busmap, lookup_append]
  exact if_congr covers_iff rfl rfl

/-- A bus read that reaches an external device (R53, R55). -/
theorem busRead32_of_external {s : State} {a : Word} {id : Nat}
    (h : lookup s.busmap (busAlign a) = some (.external id)) :
    busRead32 s a = (Config.externalRead id (busAlign a) s.deviceLog, s.logAccess (.read id (busAlign a))) := by
  rw [busRead32, h]

/-- A bus write that reaches an external device (R54, R55). -/
theorem busWrite32_of_external {s : State} {a : Word} {id : Nat}
    (h : lookup s.busmap (busAlign a) = some (.external id)) (v : Word) :
    busWrite32 s a v = s.logAccess (.write id (busAlign a) v) := by
  rw [busWrite32, h]

/-- A read of the word that the bus has just written to memory answers the value written. -/
theorem busRead32_busWrite32 {s : State} {a : Word} (hm : s.mem.wf = true)
    (h : lookup s.busmap (busAlign a) = some .memory) (v : Word) :
    busRead32 (busWrite32 s a v) a = (v, busWrite32 s a v) := by
  rw [busWrite32_of_memory h, busRead32_of_memory (s := s.setMem (memWrite s.mem (busAlign a) v)) h,
    State.setMem_mem, memRead_memWrite hm]

/-- The core side is all but the bus side. -/
theorem sameCore_of_bus (s : State) (bm : List Registration) (m : Memory) (rom : List Byte)
    (log : List DeviceAccess) :
    SameCore s { s with busmap := bm, mem := m, romImage := rom, deviceLog := log } :=
  ⟨⟨rfl, rfl, fun _ => rfl, rfl, rfl, rfl, rfl, rfl⟩, fun _ => rfl, rfl, rfl, rfl, rfl, rfl, rfl⟩

theorem sameCore_loadRom (bytes : List Byte) (s : State) : SameCore s (loadRom bytes s) :=
  sameCore_of_bus s s.busmap _ bytes s.deviceLog

theorem sameCore_registerDevice (base : Word) (size : Nat) (dev : Device) (s : State) :
    SameCore s (registerDevice base size dev s) :=
  sameCore_of_bus s _ s.mem s.romImage s.deviceLog

theorem sameCore_busRead32 (s : State) (a : Word) : SameCore s (busRead32 s a).2 := by
  obtain ⟨l, hl⟩ := busRead32_state s a
  rw [hl]
  exact sameCore_of_bus s s.busmap s.mem s.romImage l

theorem sameCore_busWrite32 (s : State) (a v : Word) : SameCore s (busWrite32 s a v) := by
  obtain ⟨m, l, hl⟩ := busWrite32_state s a v
  rw [hl]
  exact sameCore_of_bus s s.busmap m s.romImage l

/-- Settles O41: at every address, aligned or not. -/
theorem memoryReadAfterWrite : Obligations.MemoryReadAfterWrite := fun _ a v hm => memRead_memWrite hm a v

/-- Settles O42: an aligned address modulo a multiple of 4. -/
theorem alignedOffsetsDoNotWrap : Obligations.AlignedOffsetsDoNotWrap := by
  intro a
  refine ⟨?_, ?_, memOffset_eq_mod _⟩ <;>
  · rw [memOffset_eq_mod, busAlign_toNat, Config.memSize]
    omega

/-- Settles O43: both are made of byte writes. -/
theorem memoryOperationsKeepCanonicalForm : Obligations.MemoryOperationsKeepCanonicalForm := fun _ hm =>
  ⟨memWrite_wf hm, loadBytesFrom_wf hm⟩

/-- Settles O44: by induction on the two lists. -/
theorem canonicalMemoriesAreDetermined : Obligations.CanonicalMemoriesAreDetermined := fun _ _ => memory_ext

/-- Settles O45: the image's indices count from 0. -/
theorem loadRomCopiesImage : Obligations.LoadRomCopiesImage := by
  refine fun bytes s hm => ⟨loadRom bytes s, rfl, fun i b hi hlast => ?_, fun o ho => ?_, rfl, rfl, rfl,
    sameCore_loadRom bytes s⟩
  · have hbyte := memReadByte_loadBytesFrom_last hm 0 hi hlast
    rwa [Nat.zero_add] at hbyte
  · refine memReadByte_loadBytesFrom_other hm 0 bytes fun j hj => ?_
    rw [Nat.zero_add]
    exact ho j hj

/-- Settles O47: the new registration is asked first, and covers exactly its range. -/
theorem lastRegistrationWins : Obligations.LastRegistrationWins := fun s base A size dev =>
  lookup_registerDevice s base size dev A

/-- Settles O48: both accesses only see the aligned address, and aligning it again is nothing new. -/
theorem busMasksToAlignment : Obligations.BusMasksToAlignment := by
  refine fun s a v => ⟨busAlign_toNat a, ?_, ?_⟩
  · simp only [busRead32, busAlign_busAlign]
  · simp only [busWrite32, busAlign_busAlign]

/-- Settles O49: the write and the read reach the same word of memory. -/
theorem hostReadsBackItsWrite : Obligations.HostReadsBackItsWrite := by
  refine fun s addr v hm h => ⟨_, rfl, ?_⟩
  rw [hostOp, busRead32_busWrite32 hm h]

/-- Settles O50: the one access is logged. -/
theorem externalAccessLeavesBlock : Obligations.ExternalAccessLeavesBlock := fun _ _ v _ h =>
  ⟨busWrite32_of_external h v, congrArg Prod.snd (busRead32_of_external h)⟩

/-- A host operation on memory or the bus leaves the core side. -/
theorem hostOp_sameCore {op : HostOp} {s t : State} {reply : HostReply} (h : hostOp op s = .next (t, reply))
    (hstep : op ≠ .step) (hframe : op ≠ .stepFrame) (hreset : op ≠ .reset) (hstall : op ≠ .setStall) :
    SameCore s t := by
  cases op with
  | step => exact absurd rfl hstep
  | stepFrame => exact absurd rfl hframe
  | reset => exact absurd rfl hreset
  | setStall => exact absurd rfl hstall
  | loadRom bytes => cases h; exact sameCore_loadRom bytes s
  | registerDevice base size dev => cases h; exact sameCore_registerDevice base size dev s
  | busRead32 addr => cases h; exact sameCore_busRead32 s _
  | busWrite32 addr v => cases h; exact sameCore_busWrite32 s _ _
  | observe => cases h; exact sameCore_of_bus s s.busmap s.mem s.romImage s.deviceLog

/-- Settles O52: by the operation. -/
theorem hostBusOperationsLeaveCore : Obligations.HostBusOperationsLeaveCore := by
  intro op s t reply h hop
  rcases hop with ⟨_, rfl⟩ | ⟨_, _, _, rfl⟩ | ⟨_, rfl⟩ | ⟨_, _, rfl⟩ | rfl <;>
    exact hostOp_sameCore h nofun nofun nofun nofun

/-- Every general register is 0 at reset (10_state.md R38). -/
theorem readGpr_reset (k : RegIdx) : readGpr State.reset k = 0 := Vector.getElem_replicate k.isLt

/-- Every floating-point register is 0 at reset (10_state.md R38). -/
theorem readFpr_reset (k : RegIdx) : readFpr State.reset k = 0 := Vector.getElem_replicate k.isLt

/-- Every slot is a bubble at reset (10_state.md R38). -/
theorem stage_reset (k : Fin 5) : State.reset.stage[k] = Slot.bubble := Vector.getElem_replicate k.isLt

/-- Settles O1: `reset` writes the values of construction and leaves the bus side. -/
theorem hostResetRestoresReset : Obligations.HostResetRestoresReset := fun s =>
  ⟨hostReset s, rfl, readGpr_reset, readFpr_reset, rfl, rfl, rfl, rfl, rfl, rfl, rfl, stage_reset,
    rfl, rfl, rfl, rfl, rfl, rfl, fun _ => rfl, rfl, rfl, rfl⟩

/-- Settles O2: the values of construction, field by field. -/
theorem constructionValues : Obligations.ConstructionValues :=
  ⟨readGpr_reset, readFpr_reset, rfl, rfl, rfl, rfl, rfl, rfl, rfl, stage_reset, rfl, rfl, rfl, rfl, rfl, rfl,
    fun _ => rfl, rfl⟩

/-- Settles O53: a set flag is set again. -/
theorem setStallAndObserve : Obligations.SetStallAndObserve := by
  refine fun s => ⟨rfl, fun hs => ?_, rfl⟩
  have hsame : raiseStall s = s := by rw [raiseStall, ← hs]; rfl
  rw [hostOp, hsame]

end Sys2Proof.Machine
end

section
/-! The step (40_controller.md R100 to R112): which instruction it runs on which state, what it counts, and rows of
steps without stalls. -/

namespace Sys2Proof.Machine

/-- Both counters go up (R101). -/
@[simp] theorem tick_cycles (s : State) : (tick s).cycles = s.cycles + 1 := rfl
@[simp] theorem tick_instret (s : State) : (tick s).instret = s.instret + 1 := rfl
@[simp] theorem tick_pc (s : State) : (tick s).pc = s.pc := by simp [tick]
@[simp] theorem tick_stage (s : State) : (tick s).stage = s.stage := by simp [tick]
@[simp] theorem tick_stall (s : State) : (tick s).stall = s.stall := by simp [tick]
@[simp] theorem tick_booted (s : State) : (tick s).booted = s.booted := by simp [tick]
@[simp] theorem tick_mem (s : State) : (tick s).mem = s.mem := by simp [tick]
@[simp] theorem tick_busmap (s : State) : (tick s).busmap = s.busmap := by simp [tick]
@[simp] theorem readGpr_tick (s : State) (k : RegIdx) : readGpr (tick s) k = readGpr s k := by
  simp [readGpr, tick]

/-- The counters are not among the registers that only reset writes. -/
theorem sameUnread_tick (s : State) : SameUnread s (tick s) := by
  constructor <;> simp [tick, readFpr]

/-- The boot transition forces `pc` and sets the flag (R102). -/
@[simp] theorem bootTransition_pc (s : State) : (bootTransition s).pc = Config.entryVector := rfl
@[simp] theorem bootTransition_booted (s : State) : (bootTransition s).booted = true := rfl
@[simp] theorem bootTransition_stage (s : State) : (bootTransition s).stage = s.stage := rfl
@[simp] theorem bootTransition_stall (s : State) : (bootTransition s).stall = s.stall := rfl
@[simp] theorem readGpr_bootTransition (s : State) (k : RegIdx) :
    readGpr (bootTransition s) k = readGpr s k := rfl

theorem sameUnread_bootTransition (s : State) : SameUnread s (bootTransition s) :=
  ⟨rfl, rfl, fun _ => rfl, rfl, rfl, rfl, rfl, rfl⟩

theorem sameBus_bootTransition (s : State) : SameBus s (bootTransition s) :=
  ⟨rfl, fun _ => rfl, rfl, rfl, rfl⟩

theorem SameUnread.trans {s t u : State} (h : SameUnread s t) (h' : SameUnread t u) : SameUnread s u :=
  ⟨h'.hi.trans h.hi, h'.lo.trans h.lo, fun k => (h'.fpr k).trans (h.fpr k), h'.status.trans h.status,
    h'.cause.trans h.cause, h'.epc.trans h.epc, h'.badvaddr.trans h.badvaddr, h'.excPending.trans h.excPending⟩

theorem SameBus.trans {s t u : State} (h : SameBus s t) (h' : SameBus t u) : SameBus s u :=
  ⟨h'.busmap.trans h.busmap, fun o => (h'.bytes o).trans (h.bytes o), h'.mem.trans h.mem,
    h'.romImage.trans h.romImage, h'.deviceLog.trans h.deviceLog⟩

/-- Two numbers added with the wrap of 32 bits (00_scope.md R14). -/
theorem mask32_add (a : Word) (n : Nat) : mask32 (a.toNat + n) = a + BitVec.ofNat 32 n := by
  apply BitVec.eq_of_toNat_eq
  simp only [mask32, BitVec.toNat_add, BitVec.toNat_ofInt, BitVec.toNat_ofNat]
  omega

/-- The boot step is the synthesized NOP on the state after both counters and the boot transition (R102). -/
theorem step_of_unbooted {s : State} (hb : s.booted = false) : step s = exec .nop (bootTransition (tick s)) := by
  rcases nextInstr_cases (tick s) with ⟨_, hn⟩ | ⟨hbooted, _⟩
  · rw [step, hn]
  · exact absurd (hb.symm.trans hbooted) nofun

/-- A step that fetches from the memory device runs the instruction of the word there, after both counters. -/
theorem step_of_memory {s : State} (hb : s.booted = true)
    (h : lookup s.busmap (busAlign (fetchAddr s)) = some .memory) :
    step s = exec (decodeWord (memRead s.mem (busAlign (fetchAddr s)))) (tick s) := by
  rw [step_of_booted hb, busRead32_of_memory h]

/-- Every step completes (60_exceptions.md R173). -/
theorem step_next (s : State) : ∃ t, step s = .next t := ⟨_, step_eq_issue s⟩

/-- The boot transition and the fetch leave the counters and the stall flag. -/
theorem nextInstr_counters (s : State) :
    (nextInstr s).2.cycles = s.cycles ∧ (nextInstr s).2.instret = s.instret ∧
      (nextInstr s).2.stall = s.stall := by
  rcases nextInstr_cases s with ⟨_, hn⟩ | ⟨_, hn⟩
  · rw [hn]
    exact ⟨rfl, rfl, rfl⟩
  · have hcore := sameCore_busRead32 s (fetchAddr s)
    rw [hn]
    exact ⟨hcore.cycles, hcore.instret, hcore.stall⟩

/-- Every step counts one cycle (R101). -/
theorem step_cycles {s t : State} (h : step s = .next t) : t.cycles = s.cycles + 1 := by
  rw [step_eq_issue] at h
  cases h
  exact (untouched_issue _ _).cycles.trans (nextInstr_counters (tick s)).1

/-- Every step counts one instruction (R101). -/
theorem step_instret {s t : State} (h : step s = .next t) : t.instret = s.instret + 1 := by
  rw [step_eq_issue] at h
  cases h
  exact (untouched_issue _ _).instret.trans (nextInstr_counters (tick s)).2.1

/-- No step ends stalled: its advance reads the flag and clears it (41_pipeline.md R121). -/
theorem step_stall {s t : State} (h : step s = .next t) : t.stall = false := by
  rw [step_eq_issue] at h
  cases h
  exact issue_stall _ _

/-- A step that is not stalled leaves `pc` 4 on from where its instruction found it. -/
theorem step_pc {s t : State} (h : step s = .next t) (hs : s.stall = false) :
    t.pc = (if s.booted then s.pc else Config.entryVector) + 4 := by
  have hstall : (nextInstr (tick s)).2.stall = false := (nextInstr_counters (tick s)).2.2.trans hs
  rw [step_eq_issue] at h
  cases h
  rw [(issue_enters hstall _).pc, nextInstr_pc, add_four_eq_mask32]
  rfl

/-- A step leaves register 0, on the boot step and on every other (decision D33). -/
theorem step_zero {s t : State} (h : step s = .next t) : readGpr t 0 = readGpr s 0 := by
  rcases step_cases h with ⟨_, rfl⟩ | ⟨_, rfl⟩
  · simp only [readGpr_zero_issue, readGpr_bootTransition, readGpr_tick]
  · simp only [readGpr_zero_issue, readGpr_tick, readGpr_busRead32]

/-- Every row of steps completes and counts as many cycles. -/
theorem runSteps_cycles (n : Nat) (s : State) :
    ∃ t, runSteps n s = .next t ∧ t.cycles = s.cycles + BitVec.ofNat 64 n := by
  induction n generalizing s with
  | zero => exact ⟨s, rfl, (BitVec.add_zero _).symm⟩
  | succ n ih =>
    obtain ⟨u, hu⟩ := step_next s
    obtain ⟨t, ht, hc⟩ := ih u
    refine ⟨t, by rw [runSteps, hu]; exact ht, ?_⟩
    rw [hc, step_cycles hu, BitVec.ofNat_add, BitVec.add_assoc, BitVec.add_comm (BitVec.ofNat 64 n)]
    rfl

/-- The fetch addresses of booted steps without stalls go on by 4 (R112). -/
theorem runSteps_fetchAddr {n : Nat} {s t : State} (h : runSteps n s = .next t) (hb : s.booted = true)
    (hs : s.stall = false) : t.stall = false ∧ fetchAddr t = fetchAddr s + BitVec.ofNat 32 (4 * n) := by
  induction n generalizing s with
  | zero =>
    cases h
    exact ⟨hs, (BitVec.add_zero _).symm⟩
  | succ n ih =>
    obtain ⟨u, hu⟩ := step_next s
    rw [runSteps, hu] at h
    obtain ⟨hstall, hfetch⟩ := ih h (step_booted hu) (step_stall hu)
    refine ⟨hstall, ?_⟩
    rw [hfetch, fetchAddr, step_pc hu hs, hb, if_pos rfl, fetchAddr, Nat.mul_succ, BitVec.ofNat_add]
    bv_omega

/-- Settles O28: the word in memory is the instruction's own. -/
theorem stepRunsFetchedInstruction : Obligations.StepRunsFetchedInstruction := by
  intro s i hb hi hlookup hword
  rw [← sub_four_eq_mask32, ← fetchAddr] at hlookup hword
  rw [step_of_memory hb hlookup, hword, decodeWord_encode hi]
  rfl

/-- Settles O29: the word of an unmapped address is 0, which is NOP's. -/
theorem stepRunsNopWhereUnmapped : Obligations.StepRunsNopWhereUnmapped := by
  intro s hb hlookup
  rw [← sub_four_eq_mask32, ← fetchAddr] at hlookup
  rw [step_of_booted hb, busRead32_of_unmapped hlookup, decodeWord_eq_nop_iff.mpr rfl]
  rfl

/-- Settles O30: the one read is answered by the device and logged. -/
theorem stepRunsExternalWord : Obligations.StepRunsExternalWord := by
  intro s id hb hlookup
  rw [← sub_four_eq_mask32, ← fetchAddr] at hlookup ⊢
  refine ⟨congrArg Prod.fst (busRead32_of_external hlookup), ?_⟩
  rw [step_of_booted hb, busRead32_of_external hlookup]
  rfl

/-- Settles O31: the boot step is NOP's own step from the state after the boot transition. -/
theorem bootStep : Obligations.BootStep := by
  intro s hb
  have hstep := step_of_unbooted hb
  have hframe := untouched_issue Instr.nop.record (bootTransition (tick s))
  have hbus := ((sameBus_tick s).trans (sameBus_bootTransition (tick s))).trans hframe.bus
  refine ⟨hstep, _, hstep.trans (exec_eq_issue _ _), hframe.booted, hbus, fun hs => ?_, fun hs => ?_⟩
  · have hent := issue_enters (s := bootTransition (tick s)) (by simp [hs]) Instr.nop.record
    exact ⟨hent.pc, hent.newest⟩
  · rw [issue_of_stall (s := bootTransition (tick s)) (by simp [hs])]
    simp

/-- Settles O32: both counters as numbers. -/
theorem everyStepCompletesAndCounts : Obligations.EveryStepCompletesAndCounts := by
  intro s
  obtain ⟨t, ht⟩ := step_next s
  exact ⟨t, ht, by rw [step_cycles ht, BitVec.toNat_add]; rfl, by rw [step_instret ht, BitVec.toNat_add]; rfl⟩

/-- Settles O34: the row of booted steps, and the boot step before such a row. -/
theorem fetchSequenceWithoutStalls : Obligations.FetchSequenceWithoutStalls := by
  intro n s hs
  refine ⟨fun hb => ?_, fun hb => ?_⟩
  · obtain ⟨t, ht, hcycles⟩ := runSteps_cycles n s
    obtain ⟨hstall, hfetch⟩ := runSteps_fetchAddr ht hb hs
    refine ⟨t, ht, runSteps_booted ht hb, hstall, ?_, hcycles⟩
    rw [hfetch, ← mask32_add, Int.natCast_mul]
    rfl
  · obtain ⟨t, ht, hcycles⟩ := runSteps_cycles (n + 1) s
    obtain ⟨u, hu⟩ := step_next s
    have hrest : runSteps n u = .next t := by rw [← ht, runSteps, hu]
    obtain ⟨hstall, hfetch⟩ := runSteps_fetchAddr hrest (step_booted hu) (step_stall hu)
    have hentry : fetchAddr u = Config.entryVector := by
      rw [fetchAddr, step_pc hu hs, hb, if_neg (by decide), BitVec.add_sub_cancel]
    refine ⟨t, ht, runSteps_booted hrest (step_booted hu), hstall, ?_, hcycles⟩
    rw [hfetch, hentry, ← mask32_add, Int.natCast_mul]
    rfl

/-- Settles O35: the stalled step is the counters, the one bus read and the flag. -/
theorem stalledStepRepeatsFetch : Obligations.StalledStepRepeatsFetch := by
  intro s hb hs
  obtain ⟨l, hl⟩ := busRead32_state s (fetchAddr s)
  have hunread := ((sameCore_busRead32 s (fetchAddr s)).unread.trans (sameUnread_tick _)).trans
    (untouched_setStall (tick (busRead32 s (fetchAddr s)).2) false).unread
  refine ⟨_, (step_of_booted hb).trans (exec_eq_issue _ _), ?_⟩
  rw [issue_of_stall (by simp [hs])]
  rw [hl] at hunread ⊢
  refine ⟨by simp [fetchAddr], by simp, by simp, by simp, by simp, by simp, fun k => ?_, hunread, by simp,
    by simp, ?_⟩
  · simp [readGpr, tick]
  · simp [tick]

/-- Settles O36: the host's step is the one step, with the trace of the state it ends in. -/
theorem traceEveryFiveHundredCycles : Obligations.TraceEveryFiveHundredCycles := by
  intro s t h
  have hrun : runTraced 1 s = .next (t, traceOf t ++ []) := by
    rw [runTraced, h]
    rfl
  rw [hostOp, hrun, List.append_nil]
  rfl

/-- Settles O37: the frame ends where its steps end. -/
theorem frameRunsItsSteps : Obligations.FrameRunsItsSteps := by
  refine ⟨Nat.succ_le_succ (Nat.zero_le _), fun s => ?_⟩
  obtain ⟨t, events, htraced, hrun⟩ := runTraced_runSteps Config.cyclesPerFrame s
  obtain ⟨t', hrun', hcycles⟩ := runSteps_cycles Config.cyclesPerFrame s
  obtain rfl : t = t' := Host.Outcome.next.inj (hrun.symm.trans hrun')
  exact ⟨t, events, by rw [hostOp, stepFrame, htraced], hrun, hcycles⟩

/-- The registration that `placeFetchWord` makes, where one is needed, routes the fetch address to memory. -/
theorem lookup_placeFetchWord (s : State) (w : Word) :
    lookup (placeFetchWord s w).busmap (busAlign (fetchAddr s)) = some .memory := by
  by_cases h : lookup s.busmap (busAlign (fetchAddr s)) = some .memory
  · simp only [placeFetchWord, if_pos h]
    exact h
  · have halign := busAlign_toNat (fetchAddr s)
    simp only [placeFetchWord, if_neg h, State.setMem_busmap]
    rw [lookup_registerDevice, if_pos ⟨by omega, Nat.le_refl _, by omega⟩]

/-- `placeFetchWord` sets both flags, and leaves the registers, `pc` and the slots. -/
theorem placeFetchWord_core (s : State) (w : Word) :
    (placeFetchWord s w).booted = true ∧ (placeFetchWord s w).stall = false ∧ (placeFetchWord s w).pc = s.pc ∧
      (placeFetchWord s w).stage = s.stage ∧ (placeFetchWord s w).gpr = s.gpr := by
  by_cases h : lookup s.busmap (busAlign (fetchAddr s)) = some .memory
  · simp only [placeFetchWord, if_pos h]
    exact ⟨rfl, rfl, rfl, rfl, rfl⟩
  · simp only [placeFetchWord, if_neg h]
    exact ⟨rfl, rfl, rfl, rfl, rfl⟩

/-- Settles O38: the word is in memory at the fetch address, and the bus routes that address to memory. -/
theorem fetchWordRunsNext : Obligations.FetchWordRunsNext := by
  intro s w hm
  have hplace : s.withFetchWord 32 w.toNat = placeFetchWord s w := by
    rw [State.withFetchWord, Nat.mod_eq_of_lt w.isLt, BitVec.ofNat_toNat, BitVec.setWidth_eq]
  obtain ⟨hbooted, hstall, hpc, hstage, hgpr⟩ := placeFetchWord_core s w
  have hfetch : fetchAddr (placeFetchWord s w) = fetchAddr s := congrArg (· - 4) hpc
  have hlookup := lookup_placeFetchWord s w
  have hword : memRead (placeFetchWord s w).mem (busAlign (fetchAddr s)) = w := memRead_memWrite hm _ w
  refine ⟨tick (placeFetchWord s w), ?_, hstall, hbooted, hpc, hstage, hgpr⟩
  rw [hplace, step_of_memory hbooted (hfetch.symm ▸ hlookup), hfetch, hword]

/-- Settles O51: the host's write reaches the word that the next fetch reads. -/
theorem hostWriteIsFetchedNext : Obligations.HostWriteIsFetchedNext := by
  intro s w hb hm h
  have hcore := sameCore_busWrite32 s (fetchAddr s) w
  have hfetch : fetchAddr (busWrite32 s (fetchAddr s) w) = fetchAddr s := congrArg (· - 4) hcore.pc
  refine ⟨_, rfl, hcore.stage, ?_⟩
  rw [step_of_booted (hcore.booted.trans hb), hfetch, busRead32_busWrite32 hm h, ← hcore.cycles, ← hcore.instret]
  rfl

/-- Settles O57: no writeback reaches register 0. -/
theorem noStepChangesRegisterZero : Obligations.NoStepChangesRegisterZero := fun _ _ => step_zero

/-- Every run completes, with one reply for each operation. -/
theorem runHost_next (ops : List HostOp) (s : State) :
    ∃ t replies, runHost ops s = .next (t, replies) ∧ replies.length = ops.length := by
  induction ops generalizing s with
  | nil => exact ⟨s, [], rfl, rfl⟩
  | cons op ops ih =>
    obtain ⟨u, reply, hu⟩ := hostOp_next op s
    obtain ⟨t, replies, ht, hlen⟩ := ih u
    exact ⟨t, reply :: replies, by simp only [runHost, hu, ht], congrArg Nat.succ hlen⟩

/-- One more operation goes on from the end of the run. -/
theorem runHost_concat {ops : List HostOp} {op : HostOp} {s t u : State} {replies : List HostReply}
    {reply : HostReply} (h : runHost ops s = .next (t, replies)) (hop : hostOp op t = .next (u, reply)) :
    runHost (ops ++ [op]) s = .next (u, replies ++ [reply]) := by
  induction ops generalizing s replies with
  | nil =>
    cases h
    simp only [List.nil_append, runHost, hop]
  | cons first ops ih =>
    obtain ⟨s', reply', hs'⟩ := hostOp_next first s
    obtain ⟨t', replies', ht', _⟩ := runHost_next ops s'
    simp only [runHost, hs', ht'] at h
    cases h
    simp only [List.cons_append, runHost, hs', ih ht']

/-- Settles O59: the run of the operations before, and the last one from its end. -/
theorem runEndsAfterItsLastOperation : Obligations.RunEndsAfterItsLastOperation := by
  refine fun s => ⟨rfl, fun ops op => ?_⟩
  obtain ⟨t, replies, ht, hlen⟩ := runHost_next ops s
  obtain ⟨u, reply, hu⟩ := hostOp_next op t
  exact ⟨t, replies, u, reply, ht, hlen, hu, runHost_concat ht hu⟩

end Sys2Proof.Machine
end

section
/-! The invariant of the block: reset has it, and the start of a step, the advance and every host operation keep
it. -/

namespace Sys2Proof.Machine

/-- What the invariant says of the slots alone. -/
structure SlotsInv (stage : Vector Slot 5) : Prop where
  records : ∀ k : Fin 5, ∀ r, stage[k].instr = some r → r.wellFormed = true
  passZero : ∀ k : Fin 5, (∀ r, stage[k].instr = some r → r.opcode ≠ 9) → stage[k].value = 0
  newestZero : stage[0].value = 0
  filled : ∀ k : Fin 4, stage[k.castSucc].instr = none → stage[k.succ].instr = none

theorem BlockInv.slots {s : State} (h : BlockInv s) : SlotsInv s.stage :=
  ⟨h.records, h.passZero, h.newestZero, h.filled⟩

/-- The entry of a well-formed record keeps what the invariant says of the slots: the new slot meets it, every other
one is the slot before it, and only an ADDIU record in slot 1 has a new value. -/
theorem SlotsInv.enters {r : InstrRecord} {s t : State} (h : SlotsInv s.stage) (hent : Enters r s t)
    (hr : r.wellFormed = true) : SlotsInv t.stage where
  records k r' hr' := by
    cases k using Fin.cases with
    | zero =>
      obtain rfl : r = r' := Option.some.inj ((congrArg Slot.instr hent.newest).symm.trans hr')
      exact hr
    | succ k => exact h.records k.castSucc r' ((hent.instr_moves k).symm.trans hr')
  passZero k hpass := by
    cases k using Fin.cases with
    | zero => exact congrArg Slot.value hent.newest
    | succ k =>
      have hold : ∀ e, s.stage[k.castSucc].instr = some e → e.opcode ≠ 9 := fun e he =>
        hpass e ((hent.instr_moves k).trans he)
      by_cases hk : k = 0
      · subst hk
        exact (congrArg Slot.value (hent.passes hold)).trans h.newestZero
      · exact (hent.value_moves hk).trans (h.passZero k.castSucc hold)
  newestZero := congrArg Slot.value hent.newest
  filled k hk := by
    cases k using Fin.cases with
    | zero => exact absurd ((congrArg Slot.instr hent.newest).symm.trans hk) nofun
    | succ k =>
      have hold : s.stage[k.castSucc.castSucc].instr = none := (hent.instr_moves k.castSucc).symm.trans hk
      exact (hent.instr_moves k.succ).trans (h.filled k.castSucc hold)

/-- Every instruction's record is well-formed (30_encoding.md R82). -/
theorem record_wellFormed (i : Instr) : i.record.wellFormed = true := Laws.recordOf_wellFormed _ _ _ _

/-- Adding 4 keeps the low two bits. -/
theorem low_bits_add_four (a : Word) : (a + 4).extractLsb' 0 2 = a.extractLsb' 0 2 := by
  apply BitVec.eq_of_toNat_eq
  have hfour : (4 : Word).toNat = 4 := rfl
  simp only [toNat_field, BitVec.toNat_add, hfour]
  omega

/-- A change of the bus side alone keeps the invariant when memory stays canonical and the first registration
stays. -/
theorem BlockInv.of_sameCore {s t : State} (h : BlockInv s) (hcore : SameCore s t) (hmem : t.mem.wf = true)
    (hreg : t.busmap.head? = s.busmap.head?) : BlockInv t where
  memory := hmem
  zero := (hcore.gpr 0).trans h.zero
  unread := h.unread.trans hcore.unread
  records := by rw [hcore.stage]; exact h.records
  passZero := by rw [hcore.stage]; exact h.passZero
  newestZero := by rw [hcore.stage]; exact h.newestZero
  filled := by rw [hcore.stage]; exact h.filled
  unbooted := by rw [hcore.stage, hcore.booted, hcore.cycles, hcore.pc]; exact h.unbooted
  aligned := by rw [hcore.booted, hcore.pc]; exact h.aligned
  counters := hcore.instret.trans (h.counters.trans hcore.cycles.symm)
  registered := hreg.trans h.registered

/-- Counting keeps the invariant of a booted state. -/
theorem BlockInv.tick {s : State} (h : BlockInv s) (hb : s.booted = true) : BlockInv (tick s) where
  memory := by rw [tick_mem]; exact h.memory
  zero := by rw [readGpr_tick]; exact h.zero
  unread := h.unread.trans (sameUnread_tick s)
  records := by rw [tick_stage]; exact h.records
  passZero := by rw [tick_stage]; exact h.passZero
  newestZero := by rw [tick_stage]; exact h.newestZero
  filled := by rw [tick_stage]; exact h.filled
  unbooted hunbooted := by rw [tick_booted, hb] at hunbooted; cases hunbooted
  aligned _ := by rw [tick_pc]; exact h.aligned hb
  counters := congrArg (· + 1) h.counters
  registered := by rw [tick_busmap]; exact h.registered

/-- The boot transition, after both counters, takes the invariant of an unbooted state to a booted one. -/
theorem BlockInv.boot {s : State} (h : BlockInv s) : BlockInv (bootTransition (Machine.tick s)) where
  memory := ((sameBus_tick s).trans (sameBus_bootTransition _)).mem ▸ h.memory
  zero := by rw [readGpr_bootTransition, readGpr_tick]; exact h.zero
  unread := (h.unread.trans (sameUnread_tick s)).trans (sameUnread_bootTransition _)
  records := by rw [bootTransition_stage, tick_stage]; exact h.records
  passZero := by rw [bootTransition_stage, tick_stage]; exact h.passZero
  newestZero := by rw [bootTransition_stage, tick_stage]; exact h.newestZero
  filled := by rw [bootTransition_stage, tick_stage]; exact h.filled
  unbooted hunbooted := by rw [bootTransition_booted] at hunbooted; cases hunbooted
  aligned _ := by rw [bootTransition_pc]
  counters := congrArg (· + 1) h.counters
  registered := ((sameBus_tick s).trans (sameBus_bootTransition _)).busmap ▸ h.registered

/-- The stall flag is not part of the invariant. -/
theorem BlockInv.setStall {s : State} (h : BlockInv s) (b : Bool) : BlockInv (s.setStall b) :=
  ⟨h.memory, h.zero, h.unread.trans (untouched_setStall s b).unread, h.records, h.passZero, h.newestZero, h.filled,
    h.unbooted, h.aligned, h.counters, h.registered⟩

/-- A well-formed record keeps the invariant of a booted state in its own step, stalled or not. -/
theorem BlockInv.issue {s : State} (h : BlockInv s) (hb : s.booted = true) {r : InstrRecord}
    (hr : r.wellFormed = true) : BlockInv (issue r s) := by
  cases hs : s.stall with
  | true =>
    rw [issue_of_stall hs]
    exact h.setStall false
  | false =>
    have hent := issue_enters hs r
    have hslots := h.slots.enters hent hr
    have hframe := hent.untouched
    exact
      { memory := by rw [hframe.bus.mem]; exact h.memory
        zero := (readGpr_zero_issue r s).trans h.zero
        unread := h.unread.trans hframe.unread
        records := hslots.records
        passZero := hslots.passZero
        newestZero := hslots.newestZero
        filled := hslots.filled
        unbooted := fun hunbooted => absurd ((hframe.booted.trans hb).symm.trans hunbooted) nofun
        aligned := fun _ => by rw [hent.pc, ← add_four_eq_mask32, low_bits_add_four]; exact h.aligned hb
        counters := hframe.instret.trans (h.counters.trans hframe.cycles.symm)
        registered := by rw [hframe.bus.busmap]; exact h.registered }

/-- A bus read keeps the invariant. -/
theorem BlockInv.busRead32 {s : State} (h : BlockInv s) (a : Word) : BlockInv (busRead32 s a).2 := by
  obtain ⟨l, hl⟩ := busRead32_state s a
  refine h.of_sameCore (sameCore_busRead32 s a) ?_ ?_ <;> rw [hl]
  · exact h.memory
  · rfl

/-- A bus write keeps the invariant: the memory device's write keeps the canonical form. -/
theorem BlockInv.busWrite32 {s : State} (h : BlockInv s) (a v : Word) : BlockInv (busWrite32 s a v) := by
  rcases busWrite32_cases s a v with ⟨_, hw⟩ | ⟨_, hw⟩ | ⟨id, _, hw⟩
  · rw [hw]
    exact h
  · refine h.of_sameCore (sameCore_busWrite32 s a v) ?_ ?_ <;> rw [hw]
    · exact memWrite_wf h.memory (busAlign a) v
    · rfl
  · refine h.of_sameCore (sameCore_busWrite32 s a v) ?_ ?_ <;> rw [hw]
    · exact h.memory
    · rfl

/-- A new registration comes last, so the first one stays (20_memory.md R51). -/
theorem BlockInv.registerDevice {s : State} (h : BlockInv s) (base : Word) (size : Nat) (dev : Device) :
    BlockInv (registerDevice base size dev s) := by
  refine h.of_sameCore (sameCore_registerDevice base size dev s) h.memory ?_
  rw [Machine.registerDevice, State.setBusmap_busmap, List.head?_append, h.registered, Option.some_or]

theorem BlockInv.loadRom {s : State} (h : BlockInv s) (bytes : List Byte) : BlockInv (loadRom bytes s) :=
  h.of_sameCore (sameCore_loadRom bytes s) (loadBytesFrom_wf h.memory 0 bytes) rfl

/-- The host's reset makes the invariant anew from the bus side that it leaves. -/
theorem blockInv_hostReset {s : State} (hmem : s.mem.wf = true)
    (hreg : s.busmap.head? = some { base := 0, size := 0x400000, dev := .memory }) : BlockInv (hostReset s) where
  memory := hmem
  zero := readGpr_reset 0
  unread := ⟨rfl, rfl, fun _ => rfl, rfl, rfl, rfl, rfl, rfl⟩
  records k _ hr := absurd ((congrArg Slot.instr (stage_reset k)).symm.trans hr) nofun
  passZero k _ := congrArg Slot.value (stage_reset k)
  newestZero := rfl
  filled k _ := congrArg Slot.instr (stage_reset k.succ)
  unbooted _ := ⟨stage_reset, rfl, rfl⟩
  aligned := nofun
  counters := rfl
  registered := hreg

/-- A step keeps the invariant: its start leaves a booted state that has it, and a record enters. -/
theorem BlockInv.step {s t : State} (h : BlockInv s) (hstep : step s = .next t) : BlockInv t := by
  rcases step_cases hstep with ⟨_, rfl⟩ | ⟨hb, rfl⟩
  · exact h.boot.issue (bootTransition_booted _) (record_wellFormed _)
  · have hread := (busRead32_booted s (fetchAddr s)).trans hb
    exact ((h.busRead32 (fetchAddr s)).tick hread).issue ((tick_booted _).trans hread) (record_wellFormed _)

theorem BlockInv.runSteps {n : Nat} {s t : State} (h : BlockInv s) (hrun : runSteps n s = .next t) :
    BlockInv t := by
  induction n generalizing s with
  | zero =>
    cases hrun
    exact h
  | succ n ih =>
    obtain ⟨u, hu⟩ := step_next s
    rw [Machine.runSteps, hu] at hrun
    exact ih (h.step hu) hrun

/-- Settles O55: by `BlockInv.step`. -/
theorem stepKeepsInvariant : Obligations.StepKeepsInvariant := fun _ _ => BlockInv.step

/-- Settles O56: by the operation. -/
theorem hostOperationsKeepInvariant : Obligations.HostOperationsKeepInvariant := by
  intro op s t reply h hop
  cases op with
  | step => exact h.runSteps (runSteps_of_hostOp_step hop)
  | stepFrame => exact h.runSteps (runSteps_of_hostOp_stepFrame hop)
  | reset => cases hop; exact blockInv_hostReset h.memory h.registered
  | loadRom bytes => cases hop; exact h.loadRom bytes
  | setStall => cases hop; exact h.setStall true
  | registerDevice base size dev => cases hop; exact h.registerDevice base size dev
  | busRead32 addr => cases hop; exact h.busRead32 _
  | busWrite32 addr v => cases hop; exact h.busWrite32 _ _
  | observe => cases hop; exact h

/-- Settles O54: construction is a reset of the state it makes (10_state.md R38). -/
theorem resetHasInvariant : Obligations.ResetHasInvariant := blockInv_hostReset (s := State.reset) rfl rfl

end Sys2Proof.Machine
end

section
/-! The state that a step neither reads nor writes (10_state.md R25 to R27, R32, R36): each part of a step commutes with
putting other values into it. -/

namespace Sys2Proof.Machine

/-- `s` with the unread registers, the unread flag and the ROM image of `u`. -/
def State.withUnread (s u : State) : State :=
  { s with
    hi := u.hi, lo := u.lo, fpr := u.fpr, status := u.status, cause := u.cause
    epc := u.epc, badvaddr := u.badvaddr, excPending := u.excPending
    romImage := u.romImage }

theorem tick_withUnread (s u : State) : tick (s.withUnread u) = (tick s).withUnread u := rfl

theorem bootTransition_withUnread (s u : State) :
    bootTransition (s.withUnread u) = (bootTransition s).withUnread u := rfl

theorem fetchAddr_withUnread (s u : State) : fetchAddr (s.withUnread u) = fetchAddr s := rfl

theorem busRead32_withUnread (s u : State) (a : Word) :
    busRead32 (s.withUnread u) a = ((busRead32 s a).1, (busRead32 s a).2.withUnread u) := by
  rcases busRead32_cases s a with ⟨hl, hr⟩ | ⟨hl, hr⟩ | ⟨id, hl, hr⟩
  · rw [hr, busRead32_of_unmapped (s := s.withUnread u) hl]
  · rw [hr, busRead32_of_memory (s := s.withUnread u) hl]
    rfl
  · rw [hr, busRead32_of_external (s := s.withUnread u) hl]
    rfl

theorem writebackWith_withUnread (guard : Bool) (old : Slot) (s u : State) :
    writebackWith guard old (s.withUnread u) = (writebackWith guard old s).withUnread u := by
  cases hi : old.instr with
  | none => simp only [writebackWith, hi]
  | some r =>
    simp only [writebackWith, hi]
    split <;> rfl

theorem retire_withUnread (s u : State) : retire (s.withUnread u) = (retire s).withUnread u :=
  writebackWith_withUnread Config.wbGuardR0 s.stage[4] s u

theorem shiftIn_withUnread (r : InstrRecord) (s u : State) :
    shiftIn r (s.withUnread u) = (shiftIn r s).withUnread u := rfl

theorem advancePc_withUnread (s u : State) : advancePc (s.withUnread u) = (advancePc s).withUnread u := rfl

theorem execute_withUnread (s u : State) : execute (s.withUnread u) = (execute s).withUnread u := by
  rcases execute_cases s with ⟨e, he, hop, hx⟩ | ⟨hno, hx⟩
  · rw [hx, execute_of_addiu (s := s.withUnread u) he hop]
    rfl
  · rw [hx, execute_of_not_addiu (s := s.withUnread u) hno]

/-- A record's own step neither reads nor writes the unread state. -/
theorem issue_withUnread (r : InstrRecord) (s u : State) :
    issue r (s.withUnread u) = (issue r s).withUnread u := by
  cases hs : s.stall with
  | true =>
    rw [issue_of_stall hs, issue_of_stall (s := s.withUnread u) hs]
    rfl
  | false =>
    rw [issue_of_not_stall hs, issue_of_not_stall (s := s.withUnread u) hs, retire_withUnread, shiftIn_withUnread,
      advancePc_withUnread, execute_withUnread]

/-- Neither does a whole step. -/
theorem step_withUnread {s t : State} (h : step s = .next t) (u : State) :
    step (s.withUnread u) = .next (t.withUnread u) := by
  rcases step_cases h with ⟨hb, rfl⟩ | ⟨hb, rfl⟩
  · rw [step_of_unbooted (s := s.withUnread u) hb, exec_eq_issue, tick_withUnread, bootTransition_withUnread,
      issue_withUnread]
  · rw [step_of_booted (s := s.withUnread u) hb, exec_eq_issue, fetchAddr_withUnread, busRead32_withUnread,
      tick_withUnread, issue_withUnread]

/-- A step leaves the registers and the flag that only reset writes. -/
theorem step_sameUnread {s t : State} (h : step s = .next t) : SameUnread s t := by
  rcases step_cases h with ⟨_, rfl⟩ | ⟨_, rfl⟩
  · exact ((sameUnread_tick s).trans (sameUnread_bootTransition _)).trans (untouched_issue _ _).unread
  · exact ((sameCore_busRead32 s _).unread.trans (sameUnread_tick _)).trans (untouched_issue _ _).unread

/-- A step leaves the ROM image. -/
theorem step_romImage {s t : State} (h : step s = .next t) : t.romImage = s.romImage := by
  rcases step_cases h with ⟨_, rfl⟩ | ⟨_, rfl⟩
  · exact (((sameBus_tick s).trans (sameBus_bootTransition _)).trans (untouched_issue _ _).bus).romImage
  · obtain ⟨l, hl⟩ := busRead32_state s (fetchAddr s)
    rw [((sameBus_tick _).trans (untouched_issue _ _).bus).romImage, hl, State.setDeviceLog_romImage]

/-- Settles O58: the other state is the first one with its own unread state. -/
theorem unreadStateDoesNotMatter : Obligations.UnreadStateDoesNotMatter := by
  intro s t s' h hs'
  refine ⟨step_sameUnread h, step_romImage h, ?_⟩
  have hstep := step_withUnread h s'
  rwa [State.withUnread, ← hs'] at hstep

end Sys2Proof.Machine
end
